-- ==== Sys2Proof/Word.lean ====
section
/-! DEFINITION. The word types of the block (00_scope.md R7, R9; 30_encoding.md R70): plain unsigned bit
vectors, bit 0 the least significant. No value of the block is signed (R9) and nothing is floating point (R12). -/

namespace Sys2Proof

/-- The command word CMD[31:0] (R70). -/
abbrev CmdWord := BitVec 32

/-- A requested delay in microseconds, the operand bus DELAY[63:0] (R70; DELAY_BITS of R7). -/
abbrev Delay := BitVec 64

/-- A callback token, CB_W = 16 bits (R7, R160): compared for identity only, never computed with (R80). -/
abbrev Token := BitVec 16

/-- A 64-bit overflow count (OVFCNT_BITS of R7). -/
abbrev OvfCount := BitVec 64

/-- An 8-bit count, the width of TCNT and LAST_TICKS (COUNT_BITS and LAST_BITS of R7). -/
abbrev Count8 := BitVec 8

/-- A mode code, the width of WGM (R23, R78). -/
abbrev ModeCode := BitVec 2

/-- A clock-select (prescaler) code, the width of CS, PLAN_PSC and PSC_OUT (R24, R79). -/
abbrev PscCode := BitVec 3

end Sys2Proof
end

