-- ==== Sys2Proof/Config.lean ====
section
/-! DEFINITION. What one instance of the block fixes (00_scope.md R7), and the values the spec leaves open.

`fCpu`, `tickFirst` and `liveRead` are opaque: no proof can see their value, so whatever is proved holds for every
one. -/

namespace Sys2Proof.Config

/-- F_CPU of the instance in Hz, any u32 value (R7, D9, N24). It stands at reset in the state's field of the same
name, which no step writes (log entry 5). DESIGN CHOICE: left open, safe. -/
opaque fCpu : BitVec 32

/-- Which agent moves first when the interrupt is pending, the counter clock runs and the schedule says nothing
(R188: "either may come first (the order is the schedule's)"). Read with the state's counter of such choices
(log entry 4). DESIGN CHOICE: left open, safe. -/
opaque tickFirst : Nat → Bool

/-- What a host read of CUR_OVF gives while the interrupt path is live, from the value the register holds: "a mixture
of old and new bytes" on the chip, which a claim must not depend on (R205, I14; log entry 9). DESIGN CHOICE: left
open, safe. -/
opaque liveRead : BitVec 64 → BitVec 64

/-- THR_A, the largest delay that selects prescaler 8 (R7, R92). -/
def thrA : Nat := 256

/-- THR_B, the largest delay that selects prescaler 64 (R7, R92). -/
def thrB : Nat := 2048

/-- THR_C, the largest delay that selects prescaler 256 (R7, R92). -/
def thrC : Nat := 8192

/-- OVF_TICKS, the ticks of one full overflow period (R7). -/
def ovfTicks : Nat := 256

/-- US_PER_S, microseconds per second (R7). -/
def usPerS : Nat := 1000000

end Sys2Proof.Config
end

