-- ==== Sys2Proof/Syntax.lean ====
section
/-! DEFINITION. The syntax of the block: one constructor of `Instr` for each row of spec/opcode_table.json (five
commands of the host and two internal events), and the command interface of 30_encoding.md R70. -/

namespace Sys2Proof

/-- The steps of the opcode table. A command carries the operands it reads: the fields of its command word and its
operand buses (R70 to R74, R80). The two internal events have no operand and no command word (R141, R144). -/
inductive Instr where
  /-- INIT: the MODE and PSC fields, 8 bits each so that an unrecognised value can be presented (R72). -/
  | init (mode psc : BitVec 8)
  /-- START: CBP, the delay in microseconds, and the callback token, read only when CBP = 1 (R73). -/
  | start (cbp : Bool) (delay : Delay) (cbtok : Token)
  /-- STOP (R74). -/
  | stop
  /-- GETSTATUS (R74). -/
  | getStatus
  /-- PLAN: the delay in microseconds (R74, R99). -/
  | plan (delay : Delay)
  /-- TICK, one count of the counter clock (R140, R141). -/
  | tick
  /-- OVF_ISR, the overflow handler's step (R143, R144). -/
  | ovfIsr
deriving DecidableEq, Repr

/-- One presentation on the command interface: the command word together with both operand buses (R70). -/
structure Command where
  word  : CmdWord
  delay : Delay
  cbtok : Token
deriving DecidableEq, Repr

/-- Whether a row of the table is a command of the host; the others are internal events (R4). -/
def Instr.isCommand : Instr → Bool
  | .init _ _    => true
  | .start _ _ _ => true
  | .stop        => true
  | .getStatus   => true
  | .plan _      => true
  | .tick        => false
  | .ovfIsr      => false

end Sys2Proof
end

