-- ==== Sys2Proof/WellFormed.lean ====
section
/-! DEFINITION. Well-formedness of an instruction: it holds no operand that the block does not read. -/

namespace Sys2Proof

/-- A START without a callback has no token operand: CBTOK "is ignored when CBP = 0" (R73), so the term holds 0
there (log entry 22). Every other operand may take every value of its width: MODE and PSC are 8 bits wide so that
values outside the enumerations can be presented and rejected (R72). -/
def Instr.wellFormed : Instr → Bool
  | .start cbp _ cbtok => cbp || cbtok == 0#16
  | .init _ _          => true
  | .stop              => true
  | .getStatus         => true
  | .plan _            => true
  | .tick              => true
  | .ovfIsr            => true

end Sys2Proof
end

