-- ==== Sys2Proof/Decode.lean ====
section
/-! DEFINITION. The decoder of 30_encoding.md R81, total on every command word, and the encoder of R71 to R74. -/

namespace Sys2Proof

/-- Why a command word is illegal (R75). -/
inductive IllegalReason where
  /-- OP is 0x00 or 0x06 to 0xFF (R71). -/
  | unassignedOpcode
  /-- OP is assigned and a reserved bit of its format is not 0 (R72 to R74). -/
  | reservedBits
deriving DecidableEq, Repr

/-- What the decoder answers: a command, or the reason the word names none. -/
inductive Decoded where
  | instr (i : Instr)
  | illegal (why : IllegalReason)
deriving DecidableEq, Repr

/-- The opcode field OP = CMD[7:0] (R71). -/
def opField (w : CmdWord) : BitVec 8 := w.extractLsb' 0 8

/-- The MODE field of INIT, CMD[15:8] (R72). -/
def modeField (w : CmdWord) : BitVec 8 := w.extractLsb' 8 8

/-- The PSC field of INIT, CMD[23:16] (R72). -/
def pscField (w : CmdWord) : BitVec 8 := w.extractLsb' 16 8

/-- The CBP field of START, CMD[8] (R73). -/
def cbpField (w : CmdWord) : Bool := w.getLsbD 8

/-- The answer for a word whose opcode is assigned: its command when the reserved bits are all 0, and otherwise
the refusal by name (R75). -/
def ifReservedZero {n : Nat} (reserved : BitVec n) (i : Instr) : Decoded :=
  if reserved = 0#n then .instr i else .illegal .reservedBits

/-- The operands of a START: the token bus is read only when CBP = 1 and ignored otherwise (R73). -/
def startOperands (c : Command) : Instr :=
  .start (cbpField c.word) c.delay (if cbpField c.word then c.cbtok else 0#16)

/-- The decoder (R81). The operand buses a command does not read are ignored (R70). -/
def decode (c : Command) : Decoded :=
  if opField c.word = 0x01#8 then
    ifReservedZero (c.word.extractLsb' 24 8) (.init (modeField c.word) (pscField c.word))
  else if opField c.word = 0x02#8 then ifReservedZero (c.word.extractLsb' 9 23) (startOperands c)
  else if opField c.word = 0x03#8 then ifReservedZero (c.word.extractLsb' 8 24) .stop
  else if opField c.word = 0x04#8 then ifReservedZero (c.word.extractLsb' 8 24) .getStatus
  else if opField c.word = 0x05#8 then ifReservedZero (c.word.extractLsb' 8 24) (.plan c.delay)
  else .illegal .unassignedOpcode

/-- A field's value placed with its bit 0 at bit `lo` of a command word; the other bits are 0. -/
def placeField {n : Nat} (lo : Nat) (v : BitVec n) : CmdWord := v.setWidth 32 <<< lo

/-- The presentation of a command with its unread buses 0 (R71 to R74); an internal event has none. -/
def encode : Instr → Option Command
  | .init mode psc         => some ⟨placeField 16 psc ||| placeField 8 mode ||| 0x01#32, 0#64, 0#16⟩
  | .start cbp delay cbtok => some ⟨placeField 8 (BitVec.ofBool cbp) ||| 0x02#32, delay, cbtok⟩
  | .stop                  => some ⟨0x03#32, 0#64, 0#16⟩
  | .getStatus             => some ⟨0x04#32, 0#64, 0#16⟩
  | .plan delay            => some ⟨0x05#32, delay, 0#16⟩
  | .tick                  => none
  | .ovfIsr                => none

/-- A presentation given as one number: the command word in bits 31..0, as spec/opcode_table.json numbers them,
then DELAY in bits 95..32 and CBTOK in bits 111..96; bits at `nbits` and above are 0 (log entry 23). -/
def commandOfBits (nbits w : Nat) : Command :=
  let v := w % 2 ^ nbits
  ⟨BitVec.ofNat 32 v, BitVec.ofNat 64 (v / 2 ^ 32), BitVec.ofNat 16 (v / 2 ^ 96)⟩

/-- The command the decoder reads from bits numbered as the opcode table numbers them; none for an illegal word. -/
def decodeTableWord (nbits w : Nat) : Option Instr :=
  match decode (commandOfBits nbits w) with
  | .instr i   => some i
  | .illegal _ => none

end Sys2Proof
end

