-- ==== Sys2Proof/Machine/State.lean ====
section
/-! DEFINITION. The state of the block (10_state.md R20 to R40), its outputs (R38), the moves of its agents
(00_scope.md R6), the reasons a run stops (60_exceptions.md section 2) and the state after reset (R43, R200). -/

namespace Sys2Proof.Machine

/-- The faults of 60_exceptions.md: a behaviour the sources do not give. Each is first RECORDED in the mark FAULT
(R178); the step function answers with it at every state that holds the mark. -/
inductive Fault where
  /-- R179: raised by OVF_ISR on the expiring edge when the callback slot is empty. Safe: the machine stops. -/
  | nullCallbackInInterrupt
  /-- R180: raised by GETSTATUS when GIE = 1 and TOIE = 1. Safe: the machine stops. -/
  | mixedPolledInterrupt
deriving DecidableEq, Repr

/-- The refusals: a behaviour the hardware has and no source describes. Each of the spec's own is first RECORDED in
the mark REFUSED (R181); the step function answers with it at every state that holds the mark. -/
inductive Refusal where
  /-- The dispatch's answer for an instruction without a meaning. Nothing answers it in this model. Safe. -/
  | notModelled (mnemonic : String)
  /-- R182: raised by TICK when WGM is not 0 (Normal). Safe: the machine stops. -/
  | nonNormalModeCount
  /-- R183: raised by TICK when OCIE = 1 and GIE = 1. Safe: the machine stops. -/
  | compareInterruptNotModelled
deriving DecidableEq, Repr

/-- The response codes of R76, "No other code is ever produced". -/
inductive RespCode where
  | ok
  | running
  | expired
  | invalidMode
  | invalidPrescaler
  | invalidDelay
  | missingCallback
  | illegalCommand
deriving DecidableEq, Repr

/-- One response: its code, and the data outputs PSC_OUT, MAX_OUT and LAST_OUT that go with it (R76, R77). -/
structure Response where
  code    : RespCode
  pscOut  : PscCode
  maxOut  : OvfCount
  lastOut : Count8
deriving DecidableEq, Repr

/-- One move of the schedule that interleaves the agents of R6 (R56: "The order is chosen by the schedule"). -/
inductive Move where
  /-- The host presents a command word and the two operand buses (R70, R212). -/
  | command (c : Command)
  /-- The host's environment action SETGIE (R37, R83). -/
  | setGie (v : Bool)
  /-- The counter clock's turn: a TICK (R140). -/
  | tick
  /-- The interrupt context's turn: an OVF_ISR (R143). -/
  | isr
deriving DecidableEq, Repr

/-- Everything the spec gives the block, and four fields of the model's own, marked MODEL. -/
structure State where
  /-- WGM, the timer mode (R23). -/
  wgm : ModeCode
  /-- CS, the clock select (R24). -/
  cs : PscCode
  /-- TCNT, the count register (R25). -/
  tcnt : Count8
  /-- TOIE, the overflow interrupt enable (R26). -/
  toie : Bool
  /-- OCIE, the compare interrupt enable (R27). -/
  ocie : Bool
  /-- TOV, the pending overflow flag (R28). -/
  tov : Bool
  /-- DIVISOR, the prescaler's numeric divisor recorded by Init, 0 to 1024 (R29). -/
  divisor : BitVec 11
  /-- CUR_OVF, the overflows consumed in the current countdown (R30). -/
  curOvf : OvfCount
  /-- RUNNING, `is_running` (R31). -/
  running : Bool
  /-- CB_PRESENT, whether the callback slot is full (R32). -/
  cbPresent : Bool
  /-- CB_TOKEN, the stored callback's token, 0 in an empty slot (R32). -/
  cbToken : Token
  /-- PLAN_DELAY, the delay of the last successful START (R33). -/
  planDelay : Delay
  /-- PLAN_PSC, the prescaler chosen by the last successful START, as a CS code (R34). -/
  planPsc : PscCode
  /-- MAX_OVF, the full overflow periods of the current plan (R35). -/
  maxOvf : OvfCount
  /-- LAST_TICKS, the compensating partial count (R36). -/
  lastTicks : Count8
  /-- GIE, the environment's global interrupt enable (R37). -/
  gie : Bool
  /-- FAULT (R40): FAULT = 1 exactly when a fault is recorded here, and then it is this one (log entry 6). -/
  faultMark : Option Fault
  /-- REFUSED (R40): REFUSED = 1 exactly when a refusal is recorded here, and then it is this one (log entry 6). -/
  refusedMark : Option Refusal
  /-- The responses given so far, oldest first (R38, R76, R211). The output latches are those of the last one. -/
  responses : List Response
  /-- The event output: the tokens of the callback events so far, oldest first (R162). -/
  events : List Token
  /-- MODEL: the moves still to be made, the next one first (R56; log entry 1). -/
  schedule : List Move
  /-- MODEL: how many choices between TICK and OVF_ISR the drained schedule has left open so far (log entry 4). -/
  choices : Nat
  /-- MODEL: the instance's parameter F_CPU; no step writes it (R7; log entry 5). -/
  fCpu : BitVec 32
deriving DecidableEq, Repr

/-- The state after reset (R43, R200): every element 0, the callback slot empty, no response and no event yet.
The model's own fields: no move is scheduled, no choice was made, and F_CPU is whatever the instance has. -/
def State.reset : State where
  wgm := 0#2
  cs := 0#3
  tcnt := 0#8
  toie := false
  ocie := false
  tov := false
  divisor := 0#11
  curOvf := 0#64
  running := false
  cbPresent := false
  cbToken := 0#16
  planDelay := 0#64
  planPsc := 0#3
  maxOvf := 0#64
  lastTicks := 0#8
  gie := false
  faultMark := none
  refusedMark := none
  responses := []
  events := []
  schedule := []
  choices := 0
  fCpu := Config.fCpu

end Sys2Proof.Machine
end

