-- ==== Sys2Proof/Machine/Operands.lean ====
section
/-! DEFINITION. The operand codes: response codes (30_encoding.md R76), mode codes (R78), prescaler codes (R79) and
the divisor each prescaler code stands for (10_state.md R29). -/

namespace Sys2Proof.Machine

/-- The 8-bit number of a response code (R76). -/
def RespCode.byte : RespCode → BitVec 8
  | .ok               => 0x00#8
  | .running          => 0x01#8
  | .expired          => 0x02#8
  | .invalidMode      => 0x10#8
  | .invalidPrescaler => 0x11#8
  | .invalidDelay     => 0x12#8
  | .missingCallback  => 0x13#8
  | .illegalCommand   => 0x1F#8

/-- Whether a response code is an error (R170): the five codes 0x10 to 0x13 and 0x1F. -/
def RespCode.isError : RespCode → Bool
  | .ok               => false
  | .running          => false
  | .expired          => false
  | .invalidMode      => true
  | .invalidPrescaler => true
  | .invalidDelay     => true
  | .missingCallback  => true
  | .illegalCommand   => true

/-- A MODE field that names no mode: "4..255 invalid" (R78), "raised by INIT when MODE > 3" (R171). -/
def invalidMode (mode : BitVec 8) : Bool := decide (3#8 < mode)

/-- A PSC field that names no prescaler: "8..255 invalid" (R79, R172). -/
def invalidPsc (psc : BitVec 8) : Bool := decide (7#8 < psc)

/-- The mode code a valid MODE field writes to WGM: nothing is scaled or shifted (R80). -/
def modeCode (mode : BitVec 8) : ModeCode := mode.setWidth 2

/-- The prescaler code a valid PSC field writes to CS (R80). -/
def pscCode (psc : BitVec 8) : PscCode := psc.setWidth 3

/-- The divisor recorded for each CS code: `[0, 1, 8, 64, 256, 1024, 0, 0]`, 0 where the clock is stopped or
external (R29, R112). -/
def divisorOf (cs : PscCode) : BitVec 11 :=
  match cs.toNat with
  | 1 => 1#11
  | 2 => 8#11
  | 3 => 64#11
  | 4 => 256#11
  | 5 => 1024#11
  | _ => 0#11

end Sys2Proof.Machine
end

