-- ==== Sys2Proof/Machine/Flags.lean ====
section
/-! DEFINITION. The one status flag TOV, the interrupt-pending signal and the other conditions the rules test
(10_state.md R28, R39, R40; 60_exceptions.md R174, R180, R183). -/

namespace Sys2Proof.Machine

/-- FAULT as the one-bit mark of R40. -/
def State.faultBit (s : State) : Bool := s.faultMark.isSome

/-- REFUSED as the one-bit mark of R40. -/
def State.refusedBit (s : State) : Bool := s.refusedMark.isSome

/-- IRQ_PENDING: `r.TOV = 1 and r.TOIE = 1 and r.GIE = 1` (R39). -/
def State.irqPending (s : State) : Bool := s.tov && s.toie && s.gie

/-- "any timer interrupt source is currently enabled": TOIE or OCIE (R174). -/
def State.sourceEnabled (s : State) : Bool := s.toie || s.ocie

/-- The interrupt path is live, so that polling would mix the paths: GIE = 1 and TOIE = 1 (R180). -/
def State.interruptPathLive (s : State) : Bool := s.gie && s.toie

/-- The compare interrupt is live: OCIE = 1 and GIE = 1 (R183). -/
def State.compareLive (s : State) : Bool := s.ocie && s.gie

/-- The counter clock runs: CS is not 0 (R140). -/
def State.clockRuns (s : State) : Bool := s.cs != 0#3

/-- TOV after a count from `old`: set when the count wraps from 255 to 0, else as it was, so that an overflow while
TOV is already 1 is lost (R141, R142). That Normal mode sets the flag at this wrap and nowhere else is the spec's
general knowledge GK3 (log entry 12). -/
def tovAfterCount (old : Count8) (tov : Bool) : Bool := tov || old == 255#8

end Sys2Proof.Machine
end

