-- ==== Sys2Proof/Machine/Ops.lean ====
section
/-! DEFINITION. The shared operations: responses and events (R9), the Init and Stop effects (R112, R115), the reload
value (R114), the counting logic both paths share (R117, R144), entry to and return from the interrupt (R189, R190),
the marks of a fault and a refusal (R178, R181), and the enabling conditions of a step (R140, R143, R187). -/

namespace Sys2Proof.Machine

/-- What one step answers. -/
abbrev StepResult := Host.Outcome State Fault Refusal

/-- `respond(code)`: one response with the data outputs 0 (R9, R77). -/
def State.respond (s : State) (code : RespCode) : State :=
  { s with responses := s.responses ++ [⟨code, 0#3, 0#64, 0#8⟩] }

/-- `respond(OK, PSC_OUT, MAX_OUT, LAST_OUT)`: PLAN's response with data (R77, R99). -/
def State.respondPlan (s : State) (psc : PscCode) (maxOvf : OvfCount) (last : Count8) : State :=
  { s with responses := s.responses ++ [⟨.ok, psc, maxOvf, last⟩] }

/-- `emit Callback(tok)`: append one callback event (R9, R162). -/
def State.emit (s : State) (tok : Token) : State :=
  { s with events := s.events ++ [tok] }

/-- `raise Fault(kind)`: the step ends with FAULT = 1 and no other write (R9, R178). -/
def State.raise (s : State) (kind : Fault) : State :=
  { s with faultMark := some kind }

/-- `refuse(kind)`: the whole state is marked REFUSED = 1 (R9, R181). -/
def State.refuse (s : State) (kind : Refusal) : State :=
  { s with refusedMark := some kind }

/-- `init_effect(m, p)` (R112). -/
def State.initEffect (s : State) (m : ModeCode) (p : PscCode) : State :=
  { s with
    wgm := m
    cs := p
    divisor := divisorOf p
    curOvf := 0#64
    running := false }

/-- `stop_effect()` (R115): both interrupt sources off, Init in Normal mode with the clock stopped, the flag and the
counters of the plan cleared. TCNT, the callback slot, PLAN_DELAY and PLAN_PSC stay (D17). -/
def State.stopEffect (s : State) : State :=
  { s.initEffect 0#2 0#3 with
    toie := false
    ocie := false
    tov := false
    maxOvf := 0#64
    lastTicks := 0#8 }

/-- `reload(L) = (256 - L) mod 256` (R114). -/
def reload (l : Count8) : Count8 := BitVec.ofNat 8 ((256 - l.toNat) % 256)

/-- One full overflow consumed: the flag cleared and CUR_OVF incremented (R117, R144). -/
def State.consumeFull (s : State) : State :=
  { s with tov := false, curOvf := s.curOvf + 1#64 }

/-- The compensating count loaded: TCNT reloaded from LAST_TICKS, the flag cleared, CUR_OVF incremented past MAX_OVF
(R117, R144). -/
def State.loadCompensating (s : State) : State :=
  { s with tcnt := reload s.lastTicks, tov := false, curOvf := s.curOvf + 1#64 }

/-- The counting logic that GETSTATUS and OVF_ISR share, for a state with a pending overflow: none at expiry, that is
when CUR_OVF > MAX_OVF (R117, R144, R146). -/
def State.countOverflow (s : State) : Option State :=
  if s.curOvf < s.maxOvf then some s.consumeFull
  else if s.curOvf = s.maxOvf then some s.loadCompensating
  else none

/-- TAKING THE INTERRUPT (R189): entry saves nothing of the block (it has no pc and no mode register) and clears TOV.
The handler's logic then runs in the same atomic step. -/
def State.enterInterrupt (s : State) : State := { s with tov := false }

/-- RETURN FROM THE INTERRUPT (R190): the end of the step. GIE is unchanged and nothing is restored, since the entry
saved nothing. -/
def State.returnFromInterrupt (s : State) : State := s

/-- The expiring edge of the handler: CUR_OVF back to 0 and the callback event, without the Stop effect (R144). -/
def State.expireInterrupt (s : State) : State := { s with curOvf := 0#64 }.emit s.cbToken

/-- The callback of the polled expiry: the event when the slot is full, nothing when it is empty (R117). -/
def State.emitIfPresent (s : State) : State := if s.cbPresent then s.emit s.cbToken else s

/-- One count of the count register, with its flag (R141). -/
def State.count (s : State) : State :=
  { s with tcnt := s.tcnt + 1#8, tov := tovAfterCount s.tcnt s.tov }

/-- The environment action SETGIE (R37, R83). -/
def State.setGie (s : State) (v : Bool) : State := { s with gie := v }

/-- The schedule after a move was made. -/
def State.withSchedule (s : State) (rest : List Move) : State := { s with schedule := rest }

/-- One more choice of the drained schedule was made. -/
def State.bumpChoice (s : State) : State := { s with choices := s.choices + 1 }

/-- "the faulted state has no further step of any agent" (R178), nor has the refused one (R181): a state that holds a
mark answers with what it recorded, and any other state goes on. -/
def unlessMarked (s : State) (body : StepResult) : StepResult :=
  match s.faultMark, s.refusedMark with
  | some f, _    => .fault f
  | none, some r => .refused r
  | none, none   => body

/-- A command of the host (R55, R110): one atomic step from the state before it, held (nothing happens, no response
yet) while an overflow interrupt is pending (R187; log entry 2). -/
def hostCommand (s : State) (body : State → State) : StepResult :=
  unlessMarked s (if s.irqPending then .next s else .next (body s))

/-- An illegal command word "writes no state and responds ILLEGAL_COMMAND" (R75, R175). -/
def illegalCommand (s : State) : StepResult :=
  hostCommand s fun s => s.respond .illegalCommand

/-- The host's SETGIE move, held while an overflow interrupt is pending (R187). -/
def setGieAction (v : Bool) (s : State) : StepResult :=
  hostCommand s fun s => s.setGie v

end Sys2Proof.Machine
end

