-- ==== Sys2Proof/Machine/Calculator.lean ====
section
/-! DEFINITION. The delay-period calculator (40_delay_calculator.md R90 to R98) and the PLAN command (R99). All the
arithmetic is on unsigned numbers without bound, so that the product is exact (R94, D10). -/

namespace Sys2Proof.Machine

/-- A delay plan: the prescaler's CS code, `max_overflow_count` and `last_overflow_ticks` (R90). -/
structure Plan where
  psc       : PscCode
  maxOvf    : OvfCount
  lastTicks : Count8
deriving DecidableEq, Repr

/-- The prescaler, chosen by the delay in microseconds with inclusive upper bounds (R92, 90_conflicts.md C1). -/
def selectPsc (d : Nat) : PscCode :=
  if d ≤ Config.thrA then 2#3
  else if d ≤ Config.thrB then 3#3
  else if d ≤ Config.thrC then 4#3
  else 5#3

/-- `tick = F_CPU div div`, the post-prescaler rate in Hz, rounded down (R93). -/
def tickFreq (fCpu : BitVec 32) (psc : PscCode) : Nat := fCpu.toNat / (divisorOf psc).toNat

/-- The exact product d * tick (R94). -/
def planProduct (fCpu : BitVec 32) (d : Nat) : Nat := d * tickFreq fCpu (selectPsc d)

/-- X = (d * tick) div 1_000_000, the whole delay in ticks (R96). -/
def planTicks (fCpu : BitVec 32) (d : Nat) : Nat := planProduct fCpu d / Config.usPerS

/-- M = (d * tick) div 256_000_000 (R94). -/
def planMax (fCpu : BitVec 32) (d : Nat) : Nat := planProduct fCpu d / (Config.ovfTicks * Config.usPerS)

/-- L = trunc_8(X - M * 256) (R95). -/
def planLast (fCpu : BitVec 32) (d : Nat) : Nat := (planTicks fCpu d - planMax fCpu d * Config.ovfTicks) % 256

/-- The plan of a delay (R90): none stands for INVALID_DELAY, which only a zero delay gives (R91). -/
def plan (fCpu : BitVec 32) (delay : Delay) : Option Plan :=
  if delay = 0#64 then none
  else some ⟨selectPsc delay.toNat, BitVec.ofNat 64 (planMax fCpu delay.toNat),
    BitVec.ofNat 8 (planLast fCpu delay.toNat)⟩

/-- PLAN (R99): the plan on the data outputs; no register is written. -/
def execPlan (delay : Delay) (s : State) : StepResult :=
  hostCommand s fun s =>
    match plan s.fCpu delay with
    | none   => s.respond .invalidDelay
    | some p => s.respondPlan p.psc p.maxOvf p.lastTicks

end Sys2Proof.Machine
end

