-- ==== Sys2Proof/Machine/Commands.lean ====
section
/-! DEFINITION. The commands of the timer state machine (41_state_machine.md): INIT, START, STOP and GETSTATUS. -/

namespace Sys2Proof.Machine

/-- INIT (R111): the mode is checked first, then the prescaler; an error writes nothing (R176). -/
def execInit (mode psc : BitVec 8) (s : State) : StepResult :=
  hostCommand s fun s =>
    if invalidMode mode then s.respond .invalidMode
    else if invalidPsc psc then s.respond .invalidPrescaler
    else (s.initEffect (modeCode mode) (pscCode psc)).respond .ok

/-- The writes of a successful START with plan `p` (R113): Init in Normal mode with the plan's prescaler, the
overflow source enabled, the flag cleared, the first count loaded, the plan and the callback stored, RUNNING set. -/
def State.startEffect (s : State) (p : Plan) (cbp : Bool) (delay : Delay) (cbtok : Token) : State :=
  { s.initEffect 0#2 p.psc with
    toie := true
    tov := false
    tcnt := if p.maxOvf = 0#64 then reload p.lastTicks else 0#8
    curOvf := 0#64
    planDelay := delay
    planPsc := p.psc
    maxOvf := p.maxOvf
    lastTicks := p.lastTicks
    cbPresent := cbp
    cbToken := if cbp then cbtok else 0#16
    running := true }

/-- START (R113): a zero delay is rejected first (90_conflicts.md C2), then a missing callback while an interrupt
source is enabled. -/
def execStart (cbp : Bool) (delay : Delay) (cbtok : Token) (s : State) : StepResult :=
  hostCommand s fun s =>
    match plan s.fCpu delay with
    | none   => s.respond .invalidDelay
    | some p =>
      if s.sourceEnabled && !cbp then s.respond .missingCallback
      else (s.startEffect p cbp delay cbtok).respond .ok

/-- STOP (R115): unconditional, and it emits no event. -/
def execStop (s : State) : StepResult :=
  hostCommand s fun s => s.stopEffect.respond .ok

/-- GETSTATUS (R117), the polled path: a fault while the interrupt path is live, RUNNING with no overflow pending,
else the shared counting logic; at expiry the callback event, then the Stop effect (D37). -/
def execGetStatus (s : State) : StepResult :=
  hostCommand s fun s =>
    if s.interruptPathLive then s.raise .mixedPolledInterrupt
    else if !s.tov then s.respond .running
    else
      match s.countOverflow with
      | some t => t.respond .running
      | none   => s.emitIfPresent.stopEffect.respond .expired

end Sys2Proof.Machine
end

