-- ==== Sys2Proof/Machine/Counter.lean ====
section
/-! DEFINITION. The steps no host command starts (42_overflow_counter.md): TICK and OVF_ISR. -/

namespace Sys2Proof.Machine

/-- TICK (R140, R141): nothing while the clock is stopped (the step is not enabled; log entry 3), a refusal recorded
outside Normal mode or with the compare interrupt live, else one count. A pending interrupt does not hold it. -/
def execTick (s : State) : StepResult :=
  unlessMarked s <| .next <|
    if !s.clockRuns then s
    else if s.wgm ≠ 0#2 then s.refuse .nonNormalModeCount
    else if s.compareLive then s.refuse .compareInterruptNotModelled
    else s.count

/-- OVF_ISR (R143, R144): nothing while no interrupt is pending (the step is not enabled; log entry 3); else the
interrupt is taken, the shared counting logic runs, and the step returns. At expiry the callback event is emitted and
CUR_OVF restarts from 0; with an empty slot the fault is recorded instead, and nothing else of the step is written. -/
def execOvfIsr (s : State) : StepResult :=
  unlessMarked s <| .next <|
    if !s.irqPending then s
    else
      match s.enterInterrupt.countOverflow with
      | some t => t.returnFromInterrupt
      | none   =>
        if s.cbPresent then s.enterInterrupt.expireInterrupt.returnFromInterrupt
        else s.raise .nullCallbackInInterrupt

end Sys2Proof.Machine
end

