-- ==== Sys2Proof/Machine/Dispatch.lean ====
section
/-! DEFINITION. The meaning of every instruction of the opcode table: one arm per constructor of Instr. -/

namespace Sys2Proof.Machine

/-- The meaning of each instruction. -/
def exec (i : Instr) (s : State) : Host.Outcome State Fault Refusal :=
  match i with
  | .init mode psc => Sys2Proof.Machine.execInit mode psc s
  | .start cbp delay cbtok => Sys2Proof.Machine.execStart cbp delay cbtok s
  | .stop => Sys2Proof.Machine.execStop s
  | .getStatus => Sys2Proof.Machine.execGetStatus s
  | .plan delay => Sys2Proof.Machine.execPlan delay s
  | .tick => Sys2Proof.Machine.execTick s
  | .ovfIsr => Sys2Proof.Machine.execOvfIsr s

end Sys2Proof.Machine
end

