-- ==== Sys2Proof/Machine/Schedule.lean ====
section
/-! DEFINITION. How the agents' steps follow one another (00_scope.md R6; 20_memory.md R55, R56; 60_exceptions.md
R187, R188): the block has no program counter, so the next step comes from the schedule in the state. -/

namespace Sys2Proof.Machine

/-- Whether a move is the host's: a command or a SETGIE (R6, R191). The other moves are turns of the clock and of the
interrupt context, which stand for no step where R140 or R143 does not enable it (log entry 3). -/
def Move.isHost : Move → Bool
  | .command _ => true
  | .setGie _  => true
  | .tick      => false
  | .isr       => false

/-- A command the host presents: what its word decodes to, or ILLEGAL_COMMAND (R81, R175). -/
def runCommand (c : Command) (s : State) : StepResult :=
  match decode c with
  | .instr i   => exec i s
  | .illegal _ => illegalCommand s

/-- A move of the host, next in the schedule. While an overflow interrupt is pending the move is held: "the pending
OVF_ISR step runs first" (R110, R187) and the move stays next (log entry 2). -/
def runHostMove (s : State) (rest : List Move) (move : State → StepResult) : StepResult :=
  if s.irqPending then exec .ovfIsr s else move (s.withSchedule rest)

/-- The step when nothing is scheduled: a pending OVF_ISR, before or after a TICK as the open choice says while the
clock runs (R188); else a TICK, which waits for the host while the clock is stopped (R200, R211; log entry 4). -/
def drainedStep (s : State) : StepResult :=
  if s.irqPending then
    if s.clockRuns && Config.tickFirst s.choices then exec .tick s.bumpChoice
    else exec .ovfIsr s.bumpChoice
  else exec .tick s

/-- One step: the next move of the schedule. -/
def takeStep (s : State) : StepResult :=
  unlessMarked s <|
    match s.schedule with
    | []                 => drainedStep s
    | .tick :: rest      => exec .tick (s.withSchedule rest)
    | .isr :: rest       => exec .ovfIsr (s.withSchedule rest)
    | .setGie v :: rest  => runHostMove s rest (setGieAction v)
    | .command c :: rest => runHostMove s rest (runCommand c)

/-- The state with a command placed as the next move (log entry 1). -/
def State.placeCommand (s : State) (c : Command) : State :=
  { s with schedule := .command c :: s.schedule }

end Sys2Proof.Machine
end

