-- ==== Sys2Proof/Machine/Step.lean ====
section
/-! DEFINITION. The step of the machine, and the placing of one command where the step takes its next one. -/

namespace Sys2Proof.Machine

/-- One step of the block and its environment (R55, R56). -/
def step (s : State) : Host.Outcome State Fault Refusal := takeStep s

/-- The state with the command of these bits as the next move of the schedule: the block fetches no instruction
(R21, R59), a command is presented by the host (R70; log entries 1 and 23). -/
def State.withFetchWord (s : State) (nbits w : Nat) : State := s.placeCommand (commandOfBits nbits w)

end Sys2Proof.Machine
end

