-- ==== Sys2Proof/Machine/Program.lean ====
section
/-! DEFINITION. The command syntax of 30_encoding.md R82 and the environment directives of R83 as data, and the
commands and moves they stand for. -/

namespace Sys2Proof.Machine

/-- A mode operand of INIT: a name, or `#n` for the raw 8-bit code n (R82). -/
inductive ModeArg where
  | normal | phaseCorrect | ctc | fastPwm
  | raw (n : BitVec 8)
deriving DecidableEq, Repr

/-- The code of a mode operand (R78). -/
def ModeArg.code : ModeArg → BitVec 8
  | .normal       => 0#8
  | .phaseCorrect => 1#8
  | .ctc          => 2#8
  | .fastPwm      => 3#8
  | .raw n        => n

/-- A prescaler operand of INIT: a name, or `#n` for the raw 8-bit code n (R82). -/
inductive PscArg where
  | stop | clk1 | clk8 | clk64 | clk256 | clk1024 | extFall | extRise
  | raw (n : BitVec 8)
deriving DecidableEq, Repr

/-- The code of a prescaler operand (R79). -/
def PscArg.code : PscArg → BitVec 8
  | .stop    => 0#8
  | .clk1    => 1#8
  | .clk8    => 2#8
  | .clk64   => 3#8
  | .clk256  => 4#8
  | .clk1024 => 5#8
  | .extFall => 6#8
  | .extRise => 7#8
  | .raw n   => n

/-- One line of a program: a command of R82 or a directive of R83. -/
inductive Line where
  | init (mode : ModeArg) (psc : PscArg)
  | start (delay : Delay)
  | startCb (delay : Delay) (tok : Token)
  | stop
  | getStatus
  | plan (delay : Delay)
  /-- `WORD w, delay, tok`: a raw command word with its buses. -/
  | word (w : CmdWord) (delay : Delay) (tok : Token)
  | setGie (v : Bool)
  /-- `TICK n`; `eager` unless the program says otherwise: an OVF_ISR after any TICK that leaves it pending. -/
  | tick (n : Nat) (eager : Bool)
  | isr
  /-- `RESET`, only as the first line of a program. -/
  | reset
deriving DecidableEq, Repr

/-- The move that presents the encoding of a command of the table. -/
def commandMoves (i : Instr) : List Move :=
  match encode i with
  | some c => [.command c]
  | none   => []

/-- One TICK of a TICK directive: with an eager OVF_ISR after it, which does nothing unless it is pending (R83). -/
def tickMoves (eager : Bool) : List Move := if eager then [.tick, .isr] else [.tick]

/-- The moves a line stands for; none for a RESET, which is no step of a run (R83, R200). -/
def Line.moves : Line → Option (List Move)
  | .init m p      => some (commandMoves (.init m.code p.code))
  | .start d       => some (commandMoves (.start false d 0#16))
  | .startCb d t   => some (commandMoves (.start true d t))
  | .stop          => some (commandMoves .stop)
  | .getStatus     => some (commandMoves .getStatus)
  | .plan d        => some (commandMoves (.plan d))
  | .word w d t    => some [.command ⟨w, d, t⟩]
  | .setGie v      => some [.setGie v]
  | .tick n eager  => some (List.replicate n (tickMoves eager)).flatten
  | .isr           => some [.isr]
  | .reset         => none

/-- The moves of the lines after the first; none when a RESET stands among them (R83). -/
def movesOfLines : List Line → Option (List Move)
  | []        => some []
  | l :: rest =>
    match l.moves, movesOfLines rest with
    | some ms, some more => some (ms ++ more)
    | _, _               => none

/-- The schedule of a program: a RESET may stand as its first line and nowhere else (R83). -/
def assemble : List Line → Option (List Move)
  | .reset :: rest => movesOfLines rest
  | lines          => movesOfLines lines

/-- A program loaded from outside: its moves are the schedule of the state after reset (log entry 1). -/
def State.ofProgram (lines : List Line) : Option State :=
  (assemble lines).map fun ms => State.reset.withSchedule ms

end Sys2Proof.Machine
end

