-- ==== Sys2Proof/Machine/RegisterView.lean ====
section
/-! DEFINITION. What the host can read between steps (10_state.md R38, R42; 20_memory.md R50 to R54): every register
by name, its bytes, the four 8-bit registers of the register view, the output latches, and the derived state of
41_state_machine.md R130. A read is a function of the state, so it has no side effect (R54). -/

namespace Sys2Proof.Machine

/-- The registers of 10_state.md, by name (R43). -/
inductive Register where
  | wgm | cs | tcnt | toie | ocie | tov | divisor | curOvf | running | cbPresent | cbToken
  | planDelay | planPsc | maxOvf | lastTicks | gie | fault | refused
deriving DecidableEq, Repr

/-- The width of each register (R43). -/
def Register.width : Register → Nat
  | .wgm => 2
  | .cs => 3
  | .tcnt => 8
  | .toie => 1
  | .ocie => 1
  | .tov => 1
  | .divisor => 11
  | .curOvf => 64
  | .running => 1
  | .cbPresent => 1
  | .cbToken => 16
  | .planDelay => 64
  | .planPsc => 3
  | .maxOvf => 64
  | .lastTicks => 8
  | .gie => 1
  | .fault => 1
  | .refused => 1

/-- The host's read of a register: its whole current value (R38, R54), but a free value for CUR_OVF while the
interrupt path is live (GIE = 1 and TOIE = 1), where R205 lets no claim depend on the read (log entry 9). -/
def State.readRegister (s : State) : (r : Register) → BitVec r.width
  | .wgm => s.wgm
  | .cs => s.cs
  | .tcnt => s.tcnt
  | .toie => BitVec.ofBool s.toie
  | .ocie => BitVec.ofBool s.ocie
  | .tov => BitVec.ofBool s.tov
  | .divisor => s.divisor
  | .curOvf => if s.interruptPathLive then Config.liveRead s.curOvf else s.curOvf
  | .running => BitVec.ofBool s.running
  | .cbPresent => BitVec.ofBool s.cbPresent
  | .cbToken => s.cbToken
  | .planDelay => s.planDelay
  | .planPsc => s.planPsc
  | .maxOvf => s.maxOvf
  | .lastTicks => s.lastTicks
  | .gie => BitVec.ofBool s.gie
  | .fault => BitVec.ofBool s.faultBit
  | .refused => BitVec.ofBool s.refusedBit

/-- `n` bytes of a number, byte 0 (bits 7:0) first: little-endian (R52). -/
def bytesLE : Nat → Nat → List (BitVec 8)
  | 0, _     => []
  | n + 1, v => BitVec.ofNat 8 v :: bytesLE n (v / 256)

/-- A register's value as bytes, in the order a host serialises it (R52). -/
def State.readBytes (s : State) (r : Register) : List (BitVec 8) :=
  bytesLE ((r.width + 7) / 8) (s.readRegister r).toNat

/-- The 8-bit registers of the register view, laid out as on the ATmega32 (R42; PRESUMED by the spec, GK1). -/
inductive ViewReg where
  | tccr0 | tcnt0 | timsk | tifr
deriving DecidableEq, Repr

/-- The I/O address of a register of the view; informative only (R51). -/
def ViewReg.ioAddress : ViewReg → Nat
  | .tcnt0 => 0x32
  | .tccr0 => 0x33
  | .tifr  => 0x38
  | .timsk => 0x39

/-- The data-space address of a register of the view; informative only (R51). -/
def ViewReg.dataAddress : ViewReg → Nat
  | .tcnt0 => 0x52
  | .tccr0 => 0x53
  | .tifr  => 0x58
  | .timsk => 0x59

/-- One bit of a register of the view; none for a bit that is not the block's, to which "a model gives no value"
(R42; log entry 10). -/
def State.viewBit (s : State) (r : ViewReg) (bit : Fin 8) : Option Bool :=
  match r, bit.val with
  | .tccr0, 6 => some (s.wgm.getLsbD 0)
  | .tccr0, 3 => some (s.wgm.getLsbD 1)
  | .tccr0, 2 => some (s.cs.getLsbD 2)
  | .tccr0, 1 => some (s.cs.getLsbD 1)
  | .tccr0, 0 => some (s.cs.getLsbD 0)
  | .tccr0, _ => none
  | .tcnt0, i => some (s.tcnt.getLsbD i)
  | .timsk, 1 => some s.ocie
  | .timsk, 0 => some s.toie
  | .timsk, _ => none
  | .tifr, 0  => some s.tov
  | .tifr, _  => none

/-- The response the block shows: the last one given; all outputs are 0 after reset, before any command (R77, R200). -/
def State.lastResponse (s : State) : Option Response := s.responses.getLast?

/-- The response output, 8 bits (R38, R76, R200). -/
def State.responseOut (s : State) : BitVec 8 := (s.lastResponse.map (·.code.byte)).getD 0#8

/-- The data output PSC_OUT (R38, R77, R200). -/
def State.pscOut (s : State) : PscCode := (s.lastResponse.map (·.pscOut)).getD 0#3

/-- The data output MAX_OUT (R38, R77, R200). -/
def State.maxOut (s : State) : OvfCount := (s.lastResponse.map (·.maxOut)).getD 0#64

/-- The data output LAST_OUT (R38, R77, R200). -/
def State.lastOut (s : State) : Count8 := (s.lastResponse.map (·.lastOut)).getD 0#8

/-- The document's states, as R130 derives them; Expired is the expiry step itself and no state. -/
inductive Phase where
  | stopped | armed | compensating
deriving DecidableEq, Repr

/-- The derived state of R130; none where no row of its table applies (RUNNING = 1 and CUR_OVF > MAX_OVF + 1, which
no run reaches by R41). -/
def State.phase (s : State) : Option Phase :=
  if !s.running then some .stopped
  else if s.curOvf.toNat ≤ s.maxOvf.toNat then some .armed
  else if s.curOvf.toNat = s.maxOvf.toNat + 1 then some .compensating
  else none

end Sys2Proof.Machine
end

