-- ==== Sys2Proof/Safety.lean ====
section
/-! DEFINITION. The terms claims use: states without a mark, states where the host may act, launch states
(70_reset_and_hazards.md R201), the end of a run (R211) and the invariants (10_state.md R41). Each is a decidable
proposition. -/

namespace Sys2Proof.Machine

/-- FAULT = 0 and REFUSED = 0: the state has a further step (R178, R181). -/
abbrev State.Live (s : State) : Prop := s.faultMark = none ∧ s.refusedMark = none

/-- The host's commands and SETGIE are enabled: no mark, and no interrupt pending (R187). -/
abbrev State.Ready (s : State) : Prop := s.Live ∧ s.irqPending = false

/-- A legal launch state (R201). LAST_TICKS <= 255 holds by its width. -/
abbrev State.Launch (s : State) : Prop :=
  s.Live ∧
  s.curOvf.toNat ≤ s.maxOvf.toNat + 1 ∧ s.maxOvf.toNat < 2 ^ 59 ∧
  (s.cs = 0#3 ∨ s.wgm = 0#2) ∧ (s.ocie = false ∨ s.gie = false) ∧
  (s.cbPresent = false → s.cbToken = 0#16) ∧ s.divisor = divisorOf s.cs

/-- The launch state from reset with the parameters GIE_LAUNCH and OCIE_LAUNCH (R7, R27, R37). -/
def State.launch (gieLaunch ocieLaunch : Bool) : State :=
  { State.reset with gie := gieLaunch, ocie := ocieLaunch }

/-- The register invariant: the counter bounds of R41, the empty slot's token of R32 and the recorded divisor of
R29. Every launch state has it. -/
abbrev State.Inv (s : State) : Prop :=
  s.curOvf.toNat ≤ s.maxOvf.toNat + 1 ∧ s.maxOvf.toNat < 2 ^ 59 ∧
  (s.cbPresent = false → s.cbToken = 0#16) ∧ s.divisor = divisorOf s.cs

/-- PLAN_PSC holds a code the calculator gives, or its reset value (R34); and while a countdown is armed the timer
stands as START left it: Normal mode, the plan's prescaler, the overflow source enabled, a plan stored (R113; INIT
and STOP, which change these, clear RUNNING: R112, R115). The reset state has it; a launch state need not. -/
abbrev State.ArmedInv (s : State) : Prop :=
  (s.planPsc = 0#3 ∨ s.planPsc = 2#3 ∨ s.planPsc = 3#3 ∨ s.planPsc = 4#3 ∨ s.planPsc = 5#3) ∧
  (s.running = true → s.wgm = 0#2 ∧ s.cs = s.planPsc ∧ s.toie = true ∧ s.planPsc ≠ 0#3)

/-- A TICK counts from here: no mark, the clock runs, Normal mode, the compare interrupt not live (R140, R141). -/
abbrev State.Counting (s : State) : Prop :=
  s.Live ∧ s.cs ≠ 0#3 ∧ s.wgm = 0#2 ∧ (s.ocie = false ∨ s.gie = false)

/-- One step after another: the first outcome that is no next state is the outcome of both. -/
def andThen (first : StepResult) (second : State → StepResult) : StepResult :=
  match first with
  | .next t    => second t
  | .fault f   => .fault f
  | .refused r => .refused r

/-- `n` TICK steps in a row (R83). -/
def tickTimes : Nat → State → StepResult
  | 0, s     => .next s
  | n + 1, s => andThen (exec .tick s) (tickTimes n)

/-- `n` TICK steps, each with an eager OVF_ISR after it (R83), which does nothing unless the interrupt is pending. -/
def eagerTicks : Nat → State → StepResult
  | 0, s     => .next s
  | n + 1, s => andThen (andThen (exec .tick s) (exec .ovfIsr)) (eagerTicks n)

/-- One step of `i` for each overflow of the list: before each, the counter has overflowed again (TOV = 1) and stands
at the listed count. -/
def overflowsThen (i : Instr) : List Count8 → State → StepResult
  | [], s      => .next s
  | c :: cs, s => andThen (exec i { s with tcnt := c, tov := true }) (overflowsThen i cs)

/-- P(L), the TICKs from a reload to the next overflow: L for L >= 1 and 256 for L = 0 (R145). -/
def partialPeriod (l : Count8) : Nat := if l = 0#8 then 256 else l.toNat

/-- The host has no further move (R211). Turns of the other agents may be left in the schedule: where no step of
theirs is enabled they stand for none (log entry 3). -/
abbrev State.HostDone (s : State) : Prop := s.schedule.all (fun m => !m.isHost) = true

/-- The run has ended: no agent has an enabled step and the host has no further move (R211). -/
abbrev State.Ended (s : State) : Prop :=
  s.HostDone ∧ (s.clockRuns = false ∨ ¬ s.Live) ∧ (s.irqPending = false ∨ ¬ s.Live)

/-- The run has ended successfully: in addition no mark stands (R211). -/
abbrev State.EndedWell (s : State) : Prop := s.Ended ∧ s.Live

end Sys2Proof.Machine
end

