-- ==== Sys2Proof/Certificates/Slice0/Obligations.lean ====
section
/-! DEFINITION. The statements for the provers. Each docstring names the rule of spec/ it formalises. Register values
are written out as the rule gives them, not with the model's own operations, wherever the rule gives a formula. -/

open Sys2Proof Sys2Proof.Machine

/-! ## Encoding (30_encoding.md) -/

/-- Decoding the encoding of a well-formed command gives the command back, with every operand at every value; an
internal event has no encoding (R71 to R74, R81; that an unread token is 0 in a well-formed START is log entry 22). -/
def Obligations.DecodeInvertsEncode : Prop :=
  ∀ i : Instr,
    (i.isCommand = true → i.wellFormed = true → ∃ c, encode i = some c ∧ decode c = .instr i) ∧
    (i.isCommand = false → encode i = none)

/-- Every word that decodes is the encoded word of a well-formed command, so a word has one meaning (R71 to R74). -/
def Obligations.DecodedWordIsTheEncodedWord : Prop :=
  ∀ (c : Command) (i : Instr), decode c = .instr i →
    i.isCommand = true ∧ i.wellFormed = true ∧ ∃ c', encode i = some c' ∧ c'.word = c.word

/-- The decoder agrees with the match and mask of every command (R81): a word that matches decodes to that command
with its fields, and a word that matches none is illegal. That a START with CBP = 0, which ignores the token bus
(R73), decodes with the token 0 is the model's (log entry 22). -/
def Obligations.DecodeFollowsMatchAndMask : Prop :=
  ∀ c : Command,
    (c.word &&& 0xFF0000FF#32 = 0x00000001#32 →
      decode c = .instr (.init (c.word.extractLsb' 8 8) (c.word.extractLsb' 16 8))) ∧
    (c.word &&& 0xFFFFFEFF#32 = 0x00000002#32 →
      decode c = .instr (.start (c.word.getLsbD 8) c.delay (if c.word.getLsbD 8 then c.cbtok else 0#16))) ∧
    (c.word = 0x00000003#32 → decode c = .instr .stop) ∧
    (c.word = 0x00000004#32 → decode c = .instr .getStatus) ∧
    (c.word = 0x00000005#32 → decode c = .instr (.plan c.delay)) ∧
    (c.word &&& 0xFF0000FF#32 ≠ 0x00000001#32 → c.word &&& 0xFFFFFEFF#32 ≠ 0x00000002#32 →
      c.word ≠ 0x00000003#32 → c.word ≠ 0x00000004#32 → c.word ≠ 0x00000005#32 →
      ∃ why, decode c = .illegal why)

/-- Words written out from the spec's encoding decode to what 95_test_vectors.md section 2.8 says. -/
def Obligations.SampleWordsDecode : Prop :=
  decode ⟨0x00FFFF01#32, 0#64, 0#16⟩ = .instr (.init 255#8 255#8) ∧
  decode ⟨0x00050101#32, 0#64, 0#16⟩ = .instr (.init 1#8 5#8) ∧
  decode ⟨0x00000102#32, 1000#64, 7#16⟩ = .instr (.start true 1000#64 7#16) ∧
  decode ⟨0x00000003#32, 0#64, 0#16⟩ = .instr .stop ∧
  decode ⟨0x00000004#32, 0#64, 0#16⟩ = .instr .getStatus ∧
  decode ⟨0x00000005#32, 8193#64, 0#16⟩ = .instr (.plan 8193#64) ∧
  decode ⟨0x00000302#32, 0#64, 0#16⟩ = .illegal .reservedBits ∧
  decode ⟨0x00000006#32, 0#64, 0#16⟩ = .illegal .unassignedOpcode

/-- A word whose opcode is unassigned or whose reserved bits are not all 0 writes no state and responds
ILLEGAL_COMMAND, code 0x1F (R75, R175). -/
def Obligations.IllegalWordRespondsAndWritesNothing : Prop :=
  ∀ (s : State) (c : Command) (rest : List Move),
    s.Ready → s.schedule = .command c :: rest →
    ¬ (c.word.extractLsb' 0 8 = 0x01#8 ∧ c.word.extractLsb' 24 8 = 0#8) →
    ¬ (c.word.extractLsb' 0 8 = 0x02#8 ∧ c.word.extractLsb' 9 23 = 0#23) →
    ¬ (c.word.extractLsb' 0 8 = 0x03#8 ∧ c.word.extractLsb' 8 24 = 0#24) →
    ¬ (c.word.extractLsb' 0 8 = 0x04#8 ∧ c.word.extractLsb' 8 24 = 0#24) →
    ¬ (c.word.extractLsb' 0 8 = 0x05#8 ∧ c.word.extractLsb' 8 24 = 0#24) →
    step s = .next { s with
      schedule := rest
      responses := s.responses ++ [⟨.illegalCommand, 0#3, 0#64, 0#8⟩] } ∧
    RespCode.illegalCommand.byte = 0x1F#8

/-- The command lines of 30_encoding.md R82's own examples stand for the words it gives, and RESET may stand only as the
first line (R83). R83's eager OVF_ISR comes after a TICK that leaves IRQ_PENDING = 1; that a TICK line schedules a turn
of the interrupt context after every TICK, which changes nothing where none is pending, is the model's choice (log
entries 1 and 3). -/
def Obligations.SampleLinesAssemble : Prop :=
  (Line.init .phaseCorrect .clk1024).moves = some [.command ⟨0x00050101#32, 0#64, 0#16⟩] ∧
  (Line.init (.raw 4#8) .stop).moves = some [.command ⟨0x00000401#32, 0#64, 0#16⟩] ∧
  (Line.startCb 1000#64 7#16).moves = some [.command ⟨0x00000102#32, 1000#64, 7#16⟩] ∧
  (Line.start 1000#64).moves = some [.command ⟨0x00000002#32, 1000#64, 0#16⟩] ∧
  (Line.tick 2 true).moves = some [.tick, .isr, .tick, .isr] ∧
  assemble [.reset, .setGie true] = some [.setGie true] ∧
  assemble [.setGie true, .reset] = none

/-! ## The step and its agents -/

/-- With no interrupt pending, the step runs the command the host presents: it is exec of the decoded instruction,
after the move has left the schedule (the schedule is the model's, log entry 1). -/
def Obligations.StepRunsTheDecodedCommand : Prop :=
  ∀ (s : State) (c : Command) (rest : List Move) (i : Instr),
    s.Ready → s.schedule = .command c :: rest → decode c = .instr i →
    step s = exec i { s with schedule := rest }

/-- The clock's and the interrupt's moves run TICK and OVF_ISR (R6; the schedule is the model's, log entry 1). -/
def Obligations.StepRunsTheScheduledEvent : Prop :=
  ∀ (s : State) (rest : List Move), s.Live →
    (s.schedule = .tick :: rest → step s = exec .tick { s with schedule := rest }) ∧
    (s.schedule = .isr :: rest → step s = exec .ovfIsr { s with schedule := rest })

/-- SETGIE sets GIE and nothing else of the block (R37). -/
def Obligations.SetGieWritesOnlyGie : Prop :=
  ∀ (s : State) (v : Bool) (rest : List Move),
    s.Ready → s.schedule = .setGie v :: rest →
    step s = .next { s with gie := v, schedule := rest }

/-- While IRQ_PENDING = 1 a host move is held: the step runs OVF_ISR, keeps the move and gives no response, and the
hold is lifted unless the handler faulted; no command has any effect, and TICK is not held (R187; that a held move
stays next, and that a held command called on its own answers the same state, is the model's: log entry 2). -/
def Obligations.PendingInterruptHoldsTheHost : Prop :=
  ∀ (s : State) (rest : List Move), s.Live → s.irqPending = true →
    (∀ i : Instr, i.isCommand = true → exec i s = .next s) ∧
    (((∃ c, s.schedule = .command c :: rest) ∨ (∃ v, s.schedule = .setGie v :: rest)) →
      step s = exec .ovfIsr s ∧
      ∃ t, step s = .next t ∧ t.schedule = s.schedule ∧ t.responses = s.responses ∧ t.gie = s.gie ∧
        (t.Live → t.tov = false ∧ t.irqPending = false)) ∧
    (s.schedule = .tick :: rest → step s = exec .tick { s with schedule := rest })

/-- THE MODEL'S CHOICE (log entry 4) for a drained schedule: a pending OVF_ISR runs, before or after a TICK while the
clock runs, as R188 leaves open; otherwise the clock's TICK runs, and waits while the clock is stopped. -/
def Obligations.DrainedScheduleRunsTheOtherAgents : Prop :=
  ∀ s : State, s.Live → s.schedule = [] →
    (s.irqPending = false → step s = exec .tick s) ∧
    (s.irqPending = true → s.cs = 0#3 → step s = exec .ovfIsr { s with choices := s.choices + 1 }) ∧
    (s.irqPending = true → s.cs ≠ 0#3 →
      step s = exec .ovfIsr { s with choices := s.choices + 1 } ∨
      step s = exec .tick { s with choices := s.choices + 1 })

/-- The TICKs go on when the host has no further move and the interrupt is masked (R211; the drained schedule is the
model's choice, log entry 4): n steps are n TICKs. -/
def Obligations.TicksGoOnWithoutTheHost : Prop :=
  ∀ (n : Nat) (s : State), s.Counting → s.gie = false → s.schedule = [] →
    Host.Core.run Sys2Proof.core n s =
      .next { s with
        tcnt := BitVec.ofNat 8 (s.tcnt.toNat + n)
        tov := s.tov || decide (256 ≤ s.tcnt.toNat + n) }

/-- A fault ends the step that raises it with the mark and no other write, the marked state has no further step and
is no successful end of a run, and so for a refusal (R178, R181; that the mark holds which fault or refusal it records,
with which the further step answers, is the model's choice: log entry 6). -/
def Obligations.MarkedStateHasNoFurtherStep : Prop :=
  (∀ (i : Instr) (s t : State) (f : Fault), exec i s = .next t → t.faultMark = some f →
    t = { s with faultMark := some f }) ∧
  (∀ (i : Instr) (s t : State) (r : Refusal), exec i s = .next t → t.refusedMark = some r →
    t = { s with refusedMark := some r }) ∧
  (∀ (s : State) (f : Fault), s.faultMark = some f →
    step s = .fault f ∧ (∀ i, exec i s = .fault f) ∧ ¬ s.EndedWell) ∧
  (∀ (s : State) (r : Refusal), s.faultMark = none → s.refusedMark = some r →
    step s = .refused r ∧ (∀ i, exec i s = .refused r) ∧ ¬ s.EndedWell)

/-- An ended run changes nothing more: from a state whose run has ended without a mark a step only drops a leftover turn
of the clock or the interrupt (a turn that is not enabled changes nothing by the model's choice, log entry 3), and the
run is ended again; from a marked one there is no next state (R211). -/
def Obligations.EndedRunChangesNothing : Prop :=
  (∀ s : State, s.EndedWell →
    step s = .next { s with schedule := s.schedule.tail } ∧ { s with schedule := s.schedule.tail }.EndedWell) ∧
  (∀ s t : State, s.Ended → ¬ s.Live → step s ≠ .next t)

/-! ## Reset, launch and invariants -/

/-- Every state element is 0 after reset, with the slot empty (R43; the spec's decision D29 from its general knowledge
GK5, log entry 7), and no output was given (R200). -/
def Obligations.ResetValuesAreZero : Prop :=
  State.reset.wgm = 0#2 ∧ State.reset.cs = 0#3 ∧ State.reset.tcnt = 0#8 ∧
  State.reset.toie = false ∧ State.reset.ocie = false ∧ State.reset.tov = false ∧
  State.reset.divisor = 0#11 ∧ State.reset.curOvf = 0#64 ∧ State.reset.running = false ∧
  State.reset.cbPresent = false ∧ State.reset.cbToken = 0#16 ∧ State.reset.planDelay = 0#64 ∧
  State.reset.planPsc = 0#3 ∧ State.reset.maxOvf = 0#64 ∧ State.reset.lastTicks = 0#8 ∧
  State.reset.gie = false ∧ State.reset.faultBit = false ∧ State.reset.refusedBit = false ∧
  State.reset.responseOut = 0#8 ∧ State.reset.pscOut = 0#3 ∧ State.reset.maxOut = 0#64 ∧
  State.reset.lastOut = 0#8 ∧ State.reset.events = []

/-- With no move scheduled the reset state waits for the host (R200; that the wait is a step that changes nothing is
the model's choice, log entry 4). -/
def Obligations.ResetWaitsForTheHost : Prop :=
  step State.reset = .next State.reset

/-- The register invariant holds after reset and in every launch state (R201), and a launch with the parameters
GIE_LAUNCH and OCIE_LAUNCH is legal exactly when not both are 1. -/
def Obligations.InvHoldsAtResetAndLaunch : Prop :=
  State.reset.Inv ∧ (∀ s : State, s.Launch → s.Inv) ∧
  (∀ g o : Bool, (State.launch g o).Launch ↔ ¬ (g = true ∧ o = true))

/-- Every step keeps the register invariant: CUR_OVF at most MAX_OVF + 1, MAX_OVF below 2^59, no token in an empty
slot, DIVISOR the divisor of CS (the spec's own inference, 10_state.md R41, with R29 and R32). -/
def Obligations.InvKeptByEveryStep : Prop :=
  ∀ s t : State, s.Inv → step s = .next t → t.Inv

/-- The reset state has the armed-timer invariant. -/
def Obligations.ArmedInvHoldsAtReset : Prop :=
  State.reset.ArmedInv

/-- Every step keeps the armed-timer invariant: while RUNNING = 1 the timer is in Normal mode at the plan's
prescaler with the overflow source enabled, and PLAN_PSC is 0 or one of the codes 2 to 5 (R34, R112, R113, R115). -/
def Obligations.ArmedInvKeptByEveryStep : Prop :=
  ∀ s t : State, s.ArmedInv → step s = .next t → t.ArmedInv

/-- The outputs only grow, by at most one response and one event in a step, and F_CPU never changes (R7, R38, R162). -/
def Obligations.OutputsOnlyGrow : Prop :=
  ∀ s t : State, step s = .next t →
    t.fCpu = s.fCpu ∧
    (∃ rs, t.responses = s.responses ++ rs ∧ rs.length ≤ 1) ∧
    (∃ es, t.events = s.events ++ es ∧ es.length ≤ 1)

/-! ## Rules over all commands -/

/-- A command of the host that is enabled completes with exactly one response, but for the GETSTATUS that raises the
mixing fault (R110, R180). -/
def Obligations.EveryCommandRespondsOnce : Prop :=
  ∀ (i : Instr) (s : State), i.isCommand = true → s.Ready →
    ∃ t, exec i s = .next t ∧
      ((∃ r, t.responses = s.responses ++ [r]) ∧ t.Live ∨
       i = .getStatus ∧ s.gie = true ∧ s.toie = true ∧ t = { s with faultMark := some .mixedPolledInterrupt })

/-- A command that responds with an error code, an illegal word among them, writes no state and emits no event
(R176). -/
def Obligations.ErrorResponseWritesNothing : Prop :=
  (∀ (i : Instr) (s t : State) (r : Response), exec i s = .next t →
    t.responses = s.responses ++ [r] → r.code.isError = true →
    t = { s with responses := s.responses ++ [⟨r.code, 0#3, 0#64, 0#8⟩] }) ∧
  (∀ s t : State, illegalCommand s = .next t → t.responses ≠ s.responses →
    t = { s with responses := s.responses ++ [⟨.illegalCommand, 0#3, 0#64, 0#8⟩] })

/-- A callback event is emitted in exactly two places, the polled expiry with a full slot and the expiring edge of
the handler, and carries CB_TOKEN (R162). -/
def Obligations.CallbackEventsOnlyAtExpiry : Prop :=
  (∀ (i : Instr) (s t : State), exec i s = .next t →
    (t.events = s.events ∨ t.events = s.events ++ [s.cbToken]) ∧
    (t.events ≠ s.events ↔
      (i = .getStatus ∧ s.irqPending = false ∧ ¬ (s.gie = true ∧ s.toie = true) ∧ s.tov = true ∧
        s.maxOvf < s.curOvf ∧ s.cbPresent = true) ∨
      (i = .ovfIsr ∧ s.irqPending = true ∧ s.maxOvf < s.curOvf ∧ s.cbPresent = true))) ∧
  (∀ s t : State, illegalCommand s = .next t → t.events = s.events) ∧
  (∀ (v : Bool) (s t : State), setGieAction v s = .next t → t.events = s.events)

/-- The number of each response code, and which command may answer it (R76). -/
def Obligations.ResponseCodesAndTheirCommands : Prop :=
  (RespCode.ok.byte = 0x00#8 ∧ RespCode.running.byte = 0x01#8 ∧ RespCode.expired.byte = 0x02#8 ∧
   RespCode.invalidMode.byte = 0x10#8 ∧ RespCode.invalidPrescaler.byte = 0x11#8 ∧
   RespCode.invalidDelay.byte = 0x12#8 ∧ RespCode.missingCallback.byte = 0x13#8 ∧
   RespCode.illegalCommand.byte = 0x1F#8) ∧
  (∀ (i : Instr) (s t : State) (r : Response), exec i s = .next t → t.responses = s.responses ++ [r] →
    match i with
    | .init _ _    => r.code = .ok ∨ r.code = .invalidMode ∨ r.code = .invalidPrescaler
    | .start _ _ _ => r.code = .ok ∨ r.code = .invalidDelay ∨ r.code = .missingCallback
    | .stop        => r.code = .ok
    | .getStatus   => r.code = .running ∨ r.code = .expired
    | .plan _      => r.code = .ok ∨ r.code = .invalidDelay
    | .tick        => False
    | .ovfIsr      => False) ∧
  (∀ (s t : State) (r : Response), illegalCommand s = .next t → t.responses = s.responses ++ [r] →
    r.code = .illegalCommand)

/-- The data outputs hold the plan after a PLAN that answers OK, and 0 after every other response (R77). -/
def Obligations.DataOutputsHoldThePlanOrZero : Prop :=
  (∀ (i : Instr) (s t : State), exec i s = .next t → t.responses ≠ s.responses →
    match i with
    | .plan d =>
      match plan s.fCpu d with
      | some p => t.responseOut = 0x00#8 ∧ t.pscOut = p.psc ∧ t.maxOut = p.maxOvf ∧ t.lastOut = p.lastTicks
      | none   => t.responseOut = 0x12#8 ∧ t.pscOut = 0#3 ∧ t.maxOut = 0#64 ∧ t.lastOut = 0#8
    | _ => t.pscOut = 0#3 ∧ t.maxOut = 0#64 ∧ t.lastOut = 0#8) ∧
  (∀ s t : State, illegalCommand s = .next t → t.responses ≠ s.responses →
    t.responseOut = 0x1F#8 ∧ t.pscOut = 0#3 ∧ t.maxOut = 0#64 ∧ t.lastOut = 0#8)

/-- The frame of every instruction: the registers its column of the write matrix leaves alone, in every next state
(the spec's own inference, 10_state.md R44). -/
def Obligations.WriteMatrixFrame : Prop :=
  ∀ (i : Instr) (s t : State), exec i s = .next t →
    t.gie = s.gie ∧ t.schedule = s.schedule ∧ t.choices = s.choices ∧ t.fCpu = s.fCpu ∧
    match i with
    | .init _ _ =>
      t = { s with
        wgm := t.wgm, cs := t.cs, divisor := t.divisor, curOvf := t.curOvf, running := t.running,
        responses := t.responses }
    | .start _ _ _ =>
      t.ocie = s.ocie ∧ t.faultMark = s.faultMark ∧ t.refusedMark = s.refusedMark ∧ t.events = s.events
    | .stop =>
      t.tcnt = s.tcnt ∧ t.cbPresent = s.cbPresent ∧ t.cbToken = s.cbToken ∧ t.planDelay = s.planDelay ∧
      t.planPsc = s.planPsc ∧ t.faultMark = s.faultMark ∧ t.refusedMark = s.refusedMark ∧ t.events = s.events
    | .getStatus =>
      t.cbPresent = s.cbPresent ∧ t.cbToken = s.cbToken ∧ t.planDelay = s.planDelay ∧ t.planPsc = s.planPsc ∧
      t.refusedMark = s.refusedMark ∧
      (¬ (s.tov = true ∧ s.maxOvf < s.curOvf) →
        t = { s with
          tcnt := t.tcnt, tov := t.tov, curOvf := t.curOvf, faultMark := t.faultMark,
          responses := t.responses })
    | .plan _ => t = { s with responses := t.responses }
    | .tick => t = { s with tcnt := t.tcnt, tov := t.tov, refusedMark := t.refusedMark }
    | .ovfIsr =>
      t = { s with
        tcnt := t.tcnt, tov := t.tov, curOvf := t.curOvf, events := t.events, faultMark := t.faultMark }

/-! ## INIT (41_state_machine.md R111, R112) -/

/-- INIT with a valid mode and prescaler writes WGM, CS and the divisor of the prescaler, restarts the overflow count,
clears RUNNING, answers OK, and changes nothing else (R111, R112). -/
def Obligations.InitWritesModeAndClock : Prop :=
  ∀ (mode psc : BitVec 8) (s : State), s.Ready → mode.toNat ≤ 3 → psc.toNat ≤ 7 →
    exec (.init mode psc) s = .next { s with
      wgm := BitVec.ofNat 2 mode.toNat
      cs := BitVec.ofNat 3 psc.toNat
      divisor := BitVec.ofNat 11 ([0, 1, 8, 64, 256, 1024, 0, 0].getD psc.toNat 0)
      curOvf := 0#64
      running := false
      responses := s.responses ++ [⟨.ok, 0#3, 0#64, 0#8⟩] }

/-- INIT rejects a mode above 3, and with a valid mode a prescaler above 7, and records nothing (R171, R172). -/
def Obligations.InitRejectsUnrecognisedCodes : Prop :=
  ∀ (mode psc : BitVec 8) (s : State), s.Ready →
    (3 < mode.toNat →
      exec (.init mode psc) s = .next { s with
        responses := s.responses ++ [⟨.invalidMode, 0#3, 0#64, 0#8⟩] }) ∧
    (mode.toNat ≤ 3 → 7 < psc.toNat →
      exec (.init mode psc) s = .next { s with
        responses := s.responses ++ [⟨.invalidPrescaler, 0#3, 0#64, 0#8⟩] }) ∧
    RespCode.invalidMode.byte = 0x10#8 ∧ RespCode.invalidPrescaler.byte = 0x11#8

/-! ## The calculator and PLAN (40_delay_calculator.md) -/

/-- Only a zero delay has no plan (R91). -/
def Obligations.OnlyZeroDelayHasNoPlan : Prop :=
  ∀ (f : BitVec 32) (d : Delay), plan f d = none ↔ d = 0#64

/-- The prescaler is selected by the delay in microseconds alone, with inclusive upper bounds (R92). -/
def Obligations.PrescalerFollowsTheThresholds : Prop :=
  ∀ (f : BitVec 32) (d : Delay) (p : Plan), plan f d = some p →
    (d.toNat ≤ 256 → p.psc = 2#3 ∧ divisorOf p.psc = 8#11) ∧
    (256 < d.toNat → d.toNat ≤ 2048 → p.psc = 3#3 ∧ divisorOf p.psc = 64#11) ∧
    (2048 < d.toNat → d.toNat ≤ 8192 → p.psc = 4#3 ∧ divisorOf p.psc = 256#11) ∧
    (8192 < d.toNat → p.psc = 5#3 ∧ divisorOf p.psc = 1024#11)

/-- The plan's counts are the exact quotients of R93, R94 and R95, with no wrap of the product or of MAX_OVF. -/
def Obligations.PlanCountsAreExactQuotients : Prop :=
  ∀ (f : BitVec 32) (d : Delay) (p : Plan) (div : Nat), plan f d = some p →
    (if d.toNat ≤ 256 then div = 8 else if d.toNat ≤ 2048 then div = 64
      else if d.toNat ≤ 8192 then div = 256 else div = 1024) →
    p.maxOvf.toNat = (d.toNat * (f.toNat / div)) / 256000000 ∧
    p.lastTicks.toNat =
      ((d.toNat * (f.toNat / div)) / 1000000 - (d.toNat * (f.toNat / div)) / 256000000 * 256) % 256

/-- The consequences the spec draws in R96 and R97: the two counts add up to the whole delay in ticks, the 8-bit
narrowing loses nothing, and MAX_OVF stays below 2^59. -/
def Obligations.PlanAccountsForEveryTick : Prop :=
  ∀ (f : BitVec 32) (d : Delay) (p : Plan), plan f d = some p →
    p.maxOvf.toNat * 256 + p.lastTicks.toNat =
      d.toNat * (f.toNat / (divisorOf p.psc).toNat) / 1000000 ∧
    d.toNat * (f.toNat / (divisorOf p.psc).toNat) < 2 ^ 86 ∧
    p.maxOvf.toNat ≤ 302231382846063255 ∧ p.maxOvf.toNat < 2 ^ 59

/-- PLAN of a non-zero delay answers OK with the plan on the data outputs and writes no register (R99). -/
def Obligations.PlanShowsThePlan : Prop :=
  ∀ (d : Delay) (s : State) (code : PscCode) (div : Nat), s.Ready → d ≠ 0#64 →
    (if d.toNat ≤ 256 then code = 2#3 ∧ div = 8 else if d.toNat ≤ 2048 then code = 3#3 ∧ div = 64
      else if d.toNat ≤ 8192 then code = 4#3 ∧ div = 256 else code = 5#3 ∧ div = 1024) →
    exec (.plan d) s = .next { s with
      responses := s.responses ++ [⟨.ok, code,
        BitVec.ofNat 64 (d.toNat * (s.fCpu.toNat / div) / 256000000),
        BitVec.ofNat 8 (d.toNat * (s.fCpu.toNat / div) / 1000000)⟩] }

/-- START and PLAN reject a zero delay, whatever the callback and the enables, and record nothing (R173). -/
def Obligations.ZeroDelayIsRejected : Prop :=
  ∀ (cbp : Bool) (tok : Token) (s : State), s.Ready →
    exec (.start cbp 0#64 tok) s = .next { s with
      responses := s.responses ++ [⟨.invalidDelay, 0#3, 0#64, 0#8⟩] } ∧
    exec (.plan 0#64) s = .next { s with
      responses := s.responses ++ [⟨.invalidDelay, 0#3, 0#64, 0#8⟩] } ∧
    RespCode.invalidDelay.byte = 0x12#8

/-! ## START (41_state_machine.md R113) -/

/-- START with a delay but no callback is rejected while an interrupt source is enabled, and records nothing (R174). -/
def Obligations.MissingCallbackIsRejected : Prop :=
  ∀ (d : Delay) (tok : Token) (s : State), s.Ready → d ≠ 0#64 → (s.toie = true ∨ s.ocie = true) →
    exec (.start false d tok) s = .next { s with
      responses := s.responses ++ [⟨.missingCallback, 0#3, 0#64, 0#8⟩] } ∧
    RespCode.missingCallback.byte = 0x13#8

/-- START arms the countdown: every register it writes, at the value R113 gives with the plan of R92 to R95 and the
first count of R114, and nothing else. -/
def Obligations.StartArmsTheCountdown : Prop :=
  ∀ (cbp : Bool) (d : Delay) (tok : Token) (s : State) (code : PscCode) (div m l : Nat),
    s.Ready → d ≠ 0#64 → (cbp = true ∨ s.toie = false ∧ s.ocie = false) →
    (if d.toNat ≤ 256 then code = 2#3 ∧ div = 8 else if d.toNat ≤ 2048 then code = 3#3 ∧ div = 64
      else if d.toNat ≤ 8192 then code = 4#3 ∧ div = 256 else code = 5#3 ∧ div = 1024) →
    m = d.toNat * (s.fCpu.toNat / div) / 256000000 →
    l = (d.toNat * (s.fCpu.toNat / div) / 1000000 - m * 256) % 256 →
    exec (.start cbp d tok) s = .next { s with
      wgm := 0#2
      cs := code
      divisor := BitVec.ofNat 11 div
      toie := true
      tov := false
      tcnt := if m = 0 then BitVec.ofNat 8 ((256 - l) % 256) else 0#8
      curOvf := 0#64
      planDelay := d
      planPsc := code
      maxOvf := BitVec.ofNat 64 m
      lastTicks := BitVec.ofNat 8 l
      cbPresent := cbp
      cbToken := if cbp then tok else 0#16
      running := true
      responses := s.responses ++ [⟨.ok, 0#3, 0#64, 0#8⟩] }

/-- After a START that succeeds, a START without a callback is rejected; after a STOP it succeeds again (the spec's
own inference, R207). -/
def Obligations.StartWithoutCallbackNeedsAStop : Prop :=
  ∀ (cbp : Bool) (d d' : Delay) (tok tok' : Token) (s : State),
    s.Ready → d ≠ 0#64 → d' ≠ 0#64 → (cbp = true ∨ s.toie = false ∧ s.ocie = false) →
    ∃ t, exec (.start cbp d tok) s = .next t ∧ t.Ready ∧ t.running = true ∧
      exec (.start false d' tok') t = .next { t with
        responses := t.responses ++ [⟨.missingCallback, 0#3, 0#64, 0#8⟩] } ∧
      ∃ u v, exec .stop t = .next u ∧ exec (.start false d' tok') u = .next v ∧
        v.running = true ∧ v.planDelay = d' ∧ v.cbPresent = false

/-! ## STOP (41_state_machine.md R115) -/

/-- STOP disables both interrupt sources, stops the clock in Normal mode, clears the flag and the counters of the
plan, answers OK, and leaves everything else, TCNT and the callback slot among it (R115). -/
def Obligations.StopDisarmsTheTimer : Prop :=
  ∀ s : State, s.Ready →
    exec .stop s = .next { s with
      toie := false
      ocie := false
      wgm := 0#2
      cs := 0#3
      divisor := 0#11
      tov := false
      curOvf := 0#64
      maxOvf := 0#64
      lastTicks := 0#8
      running := false
      responses := s.responses ++ [⟨.ok, 0#3, 0#64, 0#8⟩] }

/-- Two STOPs leave the state one leaves, but for the second response (the spec's own inference, R116). -/
def Obligations.StopIsIdempotent : Prop :=
  ∀ s t : State, s.Ready → exec .stop s = .next t →
    t.Ready ∧ t.curOvf = 0#64 ∧ t.maxOvf = 0#64 ∧ t.toie = false ∧ t.ocie = false ∧ t.cs = 0#3 ∧
    exec .stop t = .next { t with responses := t.responses ++ [⟨.ok, 0#3, 0#64, 0#8⟩] }

/-! ## GETSTATUS (41_state_machine.md R117) -/

/-- GETSTATUS, branch by branch: the mixing fault, RUNNING with no overflow, a full overflow consumed, the
compensating count loaded, and the expiry with the callback event and the Stop effect (R117). -/
def Obligations.GetStatusBranches : Prop :=
  ∀ s : State, s.Ready →
    exec .getStatus s = .next (
      if s.gie = true ∧ s.toie = true then { s with faultMark := some .mixedPolledInterrupt }
      else if s.tov = false then { s with
        responses := s.responses ++ [⟨.running, 0#3, 0#64, 0#8⟩] }
      else if s.curOvf.toNat < s.maxOvf.toNat then { s with
        tov := false
        curOvf := s.curOvf + 1#64
        responses := s.responses ++ [⟨.running, 0#3, 0#64, 0#8⟩] }
      else if s.curOvf = s.maxOvf then { s with
        tcnt := BitVec.ofNat 8 ((256 - s.lastTicks.toNat) % 256)
        tov := false
        curOvf := s.curOvf + 1#64
        responses := s.responses ++ [⟨.running, 0#3, 0#64, 0#8⟩] }
      else { s with
        toie := false
        ocie := false
        wgm := 0#2
        cs := 0#3
        divisor := 0#11
        tov := false
        curOvf := 0#64
        maxOvf := 0#64
        lastTicks := 0#8
        running := false
        events := s.events ++ (if s.cbPresent = true then [s.cbToken] else [])
        responses := s.responses ++ [⟨.expired, 0#3, 0#64, 0#8⟩] })

/-- GETSTATUS while the interrupt path is live is the fault MixedPolledInterrupt (R180), and the machine then stops
(R178; that the stopped state answers with the recorded fault is the model's choice: log entry 6). -/
def Obligations.MixingThePathsFaults : Prop :=
  ∀ s : State, s.Ready → s.gie = true → s.toie = true →
    ∃ t, exec .getStatus s = .next t ∧ t = { s with faultMark := some .mixedPolledInterrupt } ∧
      step t = .fault .mixedPolledInterrupt

/-- From a START on the polled path, GETSTATUS consumes MAX_OVF + 2 overflows to its EXPIRED response, whatever count
each overflow is met at: RUNNING and no event before, and on the last one the callback event, exactly once, with the
timer stopped (the spec's own inference, R118). -/
def Obligations.PolledCountdownExpiresOnce : Prop :=
  ∀ (cbp : Bool) (d : Delay) (tok : Token) (s : State),
    s.Ready → s.gie = false → d ≠ 0#64 → (cbp = true ∨ s.toie = false ∧ s.ocie = false) →
    ∃ t, exec (.start cbp d tok) s = .next t ∧
      (∀ cs : List Count8, cs.length ≤ t.maxOvf.toNat + 1 →
        ∃ u, overflowsThen .getStatus cs t = .next u ∧ u.curOvf.toNat = cs.length ∧ u.events = t.events ∧
          u.responses = t.responses ++ List.replicate cs.length ⟨.running, 0#3, 0#64, 0#8⟩) ∧
      (∀ cs : List Count8, cs.length = t.maxOvf.toNat + 2 →
        ∃ u, overflowsThen .getStatus cs t = .next u ∧
          u.events = t.events ++ (if cbp = true then [tok] else []) ∧
          u.responses = t.responses ++ List.replicate (t.maxOvf.toNat + 1) ⟨.running, 0#3, 0#64, 0#8⟩ ++
            [⟨.expired, 0#3, 0#64, 0#8⟩] ∧
          u.running = false ∧ u.cs = 0#3 ∧ u.toie = false ∧ u.tov = false ∧
          u.curOvf = 0#64 ∧ u.maxOvf = 0#64 ∧ u.lastTicks = 0#8)

/-! ## TICK (42_overflow_counter.md R140 to R142) -/

/-- TICK with the clock running, branch by branch: the two refusals, else one count modulo 256 that sets TOV at the
255 to 0 wrap and leaves it as it was elsewhere (R141; the wrap as the only setting of TOV is the spec's general
knowledge GK3, log entry 12). -/
def Obligations.TickBranches : Prop :=
  ∀ s : State, s.Live → s.cs ≠ 0#3 →
    exec .tick s = .next (
      if s.wgm ≠ 0#2 then { s with refusedMark := some .nonNormalModeCount }
      else if s.ocie = true ∧ s.gie = true then { s with refusedMark := some .compareInterruptNotModelled }
      else { s with
        tcnt := BitVec.ofNat 8 ((s.tcnt.toNat + 1) % 256)
        tov := if s.tcnt = 255#8 then true else s.tov })

/-- THE MODEL'S CHOICE (log entry 3): a TICK that R140 does not enable, because the clock is stopped, changes
nothing. -/
def Obligations.TickWaitsWhileTheClockIsStopped : Prop :=
  ∀ s : State, s.Live → s.cs = 0#3 → exec .tick s = .next s

/-- A TICK outside Normal mode, or with the compare interrupt live, is refused: REFUSED is recorded and nothing counts
(R182, R183, the mode tested first by R188), and the machine then stops (R181; that the stopped state answers with the
recorded refusal is the model's choice: log entry 6). -/
def Obligations.UndescribedCountingIsRefused : Prop :=
  ∀ s : State, s.Live → s.cs ≠ 0#3 →
    (s.wgm ≠ 0#2 →
      ∃ t, exec .tick s = .next t ∧ t = { s with refusedMark := some .nonNormalModeCount } ∧
        step t = .refused .nonNormalModeCount) ∧
    (s.wgm = 0#2 → s.ocie = true → s.gie = true →
      ∃ t, exec .tick s = .next t ∧ t = { s with refusedMark := some .compareInterruptNotModelled } ∧
        step t = .refused .compareInterruptNotModelled)

/-- `reload(L) = (256 - L) mod 256` makes the next overflow come L TICKs later for L >= 1 and 256 TICKs later for
L = 0, and not before (R114; TOV at the wrap is the spec's general knowledge GK3, log entry 12). -/
def Obligations.ReloadOverflowsAfterItsTicks : Prop :=
  ∀ (l : Count8) (s : State), s.Counting → s.tov = false → s.tcnt = reload l →
    (reload l).toNat = (256 - l.toNat) % 256 ∧
    (∀ n, n < (if l = 0#8 then 256 else l.toNat) →
      ∃ t, tickTimes n s = .next t ∧ t.tov = false ∧ t.tcnt.toNat = s.tcnt.toNat + n) ∧
    tickTimes (if l = 0#8 then 256 else l.toNat) s = .next { s with tcnt := 0#8, tov := true }

/-- 256 TICKs bring the count back to where it was with TOV = 1: an overflow while TOV is already 1 is lost, and
nothing counts it (the spec's own inference, R142). -/
def Obligations.SecondOverflowIsLost : Prop :=
  ∀ s : State, s.Counting → tickTimes 256 s = .next { s with tov := true }

/-! ## OVF_ISR (42_overflow_counter.md R143 to R146) -/

/-- OVF_ISR on a pending interrupt, branch by branch: a full overflow, the compensating count, and the expiring edge
with its event or its fault; GIE is unchanged (R144; that entry clears TOV is the spec's general knowledge GK4, log
entry 13). -/
def Obligations.OvfIsrBranches : Prop :=
  ∀ s : State, s.Live → s.irqPending = true →
    exec .ovfIsr s = .next (
      if s.curOvf.toNat < s.maxOvf.toNat then { s with tov := false, curOvf := s.curOvf + 1#64 }
      else if s.curOvf = s.maxOvf then { s with
        tov := false
        tcnt := BitVec.ofNat 8 ((256 - s.lastTicks.toNat) % 256)
        curOvf := s.curOvf + 1#64 }
      else if s.cbPresent = false then { s with faultMark := some .nullCallbackInInterrupt }
      else { s with tov := false, curOvf := 0#64, events := s.events ++ [s.cbToken] })

/-- THE MODEL'S CHOICE (log entry 3): an OVF_ISR that R143 does not enable changes nothing. -/
def Obligations.OvfIsrWaitsForAPendingInterrupt : Prop :=
  ∀ s : State, s.Live → s.irqPending = false → exec .ovfIsr s = .next s

/-- The expiring edge with an empty slot is the fault NullCallbackInInterrupt (R179), with TOV still 1, and the machine
then stops (R178; that the stopped state answers with the recorded fault is the model's choice: log entry 6). -/
def Obligations.EmptySlotFaultsAtTheExpiringEdge : Prop :=
  ∀ s : State, s.Live → s.irqPending = true → s.maxOvf.toNat < s.curOvf.toNat → s.cbPresent = false →
    ∃ t, exec .ovfIsr s = .next t ∧ t = { s with faultMark := some .nullCallbackInInterrupt } ∧
      step t = .fault .nullCallbackInInterrupt

/-- Up to expiry the two paths count alike: the OVF_ISR of a state with GIE = 1 and the GETSTATUS of the same state
with GIE = 0 leave the same registers (the spec's own inference, R146). -/
def Obligations.BothPathsCountAlike : Prop :=
  ∀ s : State, s.Live → s.tov = true → s.toie = true → s.curOvf.toNat ≤ s.maxOvf.toNat →
    ∃ t u, exec .getStatus { s with gie := false } = .next t ∧ exec .ovfIsr { s with gie := true } = .next u ∧
      { t with gie := u.gie, responses := u.responses } = u ∧ u.responses = s.responses ∧
      u.curOvf.toNat = (s.curOvf.toNat + 1) % 2 ^ 64

/-- On the interrupt path the countdown repeats: k times MAX_OVF + 2 overflows, whatever count each is met at, leave
the state as it was with k more callback events, and within a period no event comes before its last overflow (the
spec's own inference, R145 and R146). -/
def Obligations.InterruptCountdownRepeats : Prop :=
  ∀ s : State, s.Live → s.gie = true → s.toie = true → s.tov = false → s.cbPresent = true → s.curOvf = 0#64 →
    s.maxOvf.toNat < 2 ^ 59 →
    (∀ cs : List Count8, cs.length ≤ s.maxOvf.toNat + 1 →
      ∃ u, overflowsThen .ovfIsr cs s = .next u ∧ u.curOvf.toNat = cs.length ∧ u.events = s.events) ∧
    (∀ (k : Nat) (cs : List Count8), cs.length = k * (s.maxOvf.toNat + 2) →
      ∃ u, overflowsThen .ovfIsr cs s = .next u ∧
        u = { s with tcnt := u.tcnt, events := s.events ++ List.replicate k s.cbToken })

/-- With every OVF_ISR right after the TICK that set TOV, the next callback event on the interrupt path comes 2 * P(L)
TICKs after the count reload(L) with M = 0, and (M + 1) * 256 + P(L) TICKs after the count 0 for every M, and not
before (the spec's own inference, R145). The counts are those START loads (StartArmsTheCountdown) and an event
leaves. -/
def Obligations.CallbackPeriodInTicks : Prop :=
  ∀ (s : State) (period : Nat), s.Counting → s.gie = true → s.toie = true → s.tov = false → s.cbPresent = true →
    s.curOvf = 0#64 → s.maxOvf.toNat < 2 ^ 59 →
    (s.maxOvf = 0#64 ∧ s.tcnt = reload s.lastTicks ∧ period = 2 * partialPeriod s.lastTicks ∨
     s.tcnt = 0#8 ∧ period = (s.maxOvf.toNat + 1) * 256 + partialPeriod s.lastTicks) →
    (∀ n, n < period → ∃ u, eagerTicks n s = .next u ∧ u.events = s.events) ∧
    eagerTicks period s = .next { s with tcnt := 0#8, events := s.events ++ [s.cbToken] }

/-! ## Derived state and register reads -/

/-- The transitions of the derived state, from a state within the counter bounds (the spec's own inference, R131). -/
def Obligations.DerivedStateTransitions : Prop :=
  ∀ (i : Instr) (s t : State), s.Inv → exec i s = .next t → t.Live → (i.isCommand = true → s.irqPending = false) →
    match i with
    | .init mode psc => t.phase = if mode.toNat ≤ 3 ∧ psc.toNat ≤ 7 then some .stopped else s.phase
    | .start cbp d _ =>
      t.phase = if d ≠ 0#64 ∧ (cbp = true ∨ s.toie = false ∧ s.ocie = false) then some .armed else s.phase
    | .stop => t.phase = some .stopped
    | .plan _ => t.phase = s.phase
    | .tick => t.phase = s.phase
    | .getStatus =>
      (s.tov = false → t.phase = s.phase) ∧
      (s.tov = true → s.phase = some .armed → s.curOvf.toNat < s.maxOvf.toNat → t.phase = some .armed) ∧
      (s.tov = true → s.phase = some .armed → s.curOvf = s.maxOvf → t.phase = some .compensating) ∧
      (s.tov = true → s.phase = some .compensating → t.phase = some .stopped)
    | .ovfIsr =>
      (s.irqPending = false → t.phase = s.phase) ∧
      (s.irqPending = true → s.phase = some .armed → s.curOvf.toNat < s.maxOvf.toNat → t.phase = some .armed) ∧
      (s.irqPending = true → s.phase = some .armed → s.curOvf = s.maxOvf → t.phase = some .compensating) ∧
      (s.irqPending = true → s.phase = some .compensating → t.phase = some .armed ∧ t.curOvf = 0#64)

/-- The register view: every bit of the block stands where R42's table puts it, and the other bits have no value
(the layout is the spec's general knowledge, GK1; log entry 11). -/
def Obligations.RegisterViewLayout : Prop :=
  ∀ s : State,
    (∀ b : Fin 8, s.viewBit .tcnt0 b = some (s.tcnt.getLsbD b)) ∧
    s.viewBit .tccr0 0 = some (s.cs.getLsbD 0) ∧ s.viewBit .tccr0 1 = some (s.cs.getLsbD 1) ∧
    s.viewBit .tccr0 2 = some (s.cs.getLsbD 2) ∧ s.viewBit .tccr0 3 = some (s.wgm.getLsbD 1) ∧
    s.viewBit .tccr0 4 = none ∧ s.viewBit .tccr0 5 = none ∧ s.viewBit .tccr0 6 = some (s.wgm.getLsbD 0) ∧
    s.viewBit .tccr0 7 = none ∧
    s.viewBit .timsk 0 = some s.toie ∧ s.viewBit .timsk 1 = some s.ocie ∧
    s.viewBit .tifr 0 = some s.tov ∧
    (∀ b : Fin 8, 2 ≤ b.val → s.viewBit .timsk b = none) ∧ (∀ b : Fin 8, 1 ≤ b.val → s.viewBit .tifr b = none)

/-- A host read of a register gives the value it holds, whole (R38, R54), where R205 lets a claim read it: CUR_OVF only
with GIE = 0 or TOIE = 0. -/
def Obligations.HostReadsWholeRegisters : Prop :=
  ∀ s : State,
    s.readRegister .wgm = s.wgm ∧ s.readRegister .cs = s.cs ∧ s.readRegister .tcnt = s.tcnt ∧
    s.readRegister .toie = BitVec.ofBool s.toie ∧ s.readRegister .ocie = BitVec.ofBool s.ocie ∧
    s.readRegister .tov = BitVec.ofBool s.tov ∧ s.readRegister .divisor = s.divisor ∧
    s.readRegister .running = BitVec.ofBool s.running ∧ s.readRegister .cbPresent = BitVec.ofBool s.cbPresent ∧
    s.readRegister .cbToken = s.cbToken ∧ s.readRegister .planDelay = s.planDelay ∧
    s.readRegister .planPsc = s.planPsc ∧ s.readRegister .maxOvf = s.maxOvf ∧
    s.readRegister .lastTicks = s.lastTicks ∧ s.readRegister .gie = BitVec.ofBool s.gie ∧
    s.readRegister .fault = BitVec.ofBool s.faultMark.isSome ∧
    s.readRegister .refused = BitVec.ofBool s.refusedMark.isSome ∧
    (s.gie = false ∨ s.toie = false → s.readRegister .curOvf = s.curOvf)

/-- The bytes of a register, byte 0 the least significant, make up its whole value, and there are as many as its
width needs (R52). -/
def Obligations.BytesAreLittleEndian : Prop :=
  ∀ (s : State) (r : Register),
    (s.readBytes r).length = (r.width + 7) / 8 ∧
    (s.readBytes r).foldr (fun b acc => b.toNat + 256 * acc) 0 = (s.readRegister r).toNat
end

