-- ==== Sys2Proof/Laws/State.lean ====
section
/-! SUPPORT. One lemma per field of the state per update, each true by unfolding the update. -/

namespace Sys2Proof.Machine

variable (s : State)

@[simp] theorem State.respond_wgm (code : RespCode) : (s.respond code).wgm = s.wgm := rfl
@[simp] theorem State.respond_cs (code : RespCode) : (s.respond code).cs = s.cs := rfl
@[simp] theorem State.respond_tcnt (code : RespCode) : (s.respond code).tcnt = s.tcnt := rfl
@[simp] theorem State.respond_toie (code : RespCode) : (s.respond code).toie = s.toie := rfl
@[simp] theorem State.respond_ocie (code : RespCode) : (s.respond code).ocie = s.ocie := rfl
@[simp] theorem State.respond_tov (code : RespCode) : (s.respond code).tov = s.tov := rfl
@[simp] theorem State.respond_divisor (code : RespCode) : (s.respond code).divisor = s.divisor := rfl
@[simp] theorem State.respond_curOvf (code : RespCode) : (s.respond code).curOvf = s.curOvf := rfl
@[simp] theorem State.respond_running (code : RespCode) : (s.respond code).running = s.running := rfl
@[simp] theorem State.respond_cbPresent (code : RespCode) : (s.respond code).cbPresent = s.cbPresent := rfl
@[simp] theorem State.respond_cbToken (code : RespCode) : (s.respond code).cbToken = s.cbToken := rfl
@[simp] theorem State.respond_planDelay (code : RespCode) : (s.respond code).planDelay = s.planDelay := rfl
@[simp] theorem State.respond_planPsc (code : RespCode) : (s.respond code).planPsc = s.planPsc := rfl
@[simp] theorem State.respond_maxOvf (code : RespCode) : (s.respond code).maxOvf = s.maxOvf := rfl
@[simp] theorem State.respond_lastTicks (code : RespCode) : (s.respond code).lastTicks = s.lastTicks := rfl
@[simp] theorem State.respond_gie (code : RespCode) : (s.respond code).gie = s.gie := rfl
@[simp] theorem State.respond_faultMark (code : RespCode) : (s.respond code).faultMark = s.faultMark := rfl
@[simp] theorem State.respond_refusedMark (code : RespCode) : (s.respond code).refusedMark = s.refusedMark := rfl
@[simp] theorem State.respond_responses (code : RespCode) : (s.respond code).responses = s.responses ++ [⟨code, 0#3, 0#64, 0#8⟩] := rfl
@[simp] theorem State.respond_events (code : RespCode) : (s.respond code).events = s.events := rfl
@[simp] theorem State.respond_schedule (code : RespCode) : (s.respond code).schedule = s.schedule := rfl
@[simp] theorem State.respond_choices (code : RespCode) : (s.respond code).choices = s.choices := rfl
@[simp] theorem State.respond_fCpu (code : RespCode) : (s.respond code).fCpu = s.fCpu := rfl

@[simp] theorem State.respondPlan_wgm (p : PscCode) (m : OvfCount) (l : Count8) : (s.respondPlan p m l).wgm = s.wgm := rfl
@[simp] theorem State.respondPlan_cs (p : PscCode) (m : OvfCount) (l : Count8) : (s.respondPlan p m l).cs = s.cs := rfl
@[simp] theorem State.respondPlan_tcnt (p : PscCode) (m : OvfCount) (l : Count8) : (s.respondPlan p m l).tcnt = s.tcnt := rfl
@[simp] theorem State.respondPlan_toie (p : PscCode) (m : OvfCount) (l : Count8) : (s.respondPlan p m l).toie = s.toie := rfl
@[simp] theorem State.respondPlan_ocie (p : PscCode) (m : OvfCount) (l : Count8) : (s.respondPlan p m l).ocie = s.ocie := rfl
@[simp] theorem State.respondPlan_tov (p : PscCode) (m : OvfCount) (l : Count8) : (s.respondPlan p m l).tov = s.tov := rfl
@[simp] theorem State.respondPlan_divisor (p : PscCode) (m : OvfCount) (l : Count8) : (s.respondPlan p m l).divisor = s.divisor := rfl
@[simp] theorem State.respondPlan_curOvf (p : PscCode) (m : OvfCount) (l : Count8) : (s.respondPlan p m l).curOvf = s.curOvf := rfl
@[simp] theorem State.respondPlan_running (p : PscCode) (m : OvfCount) (l : Count8) : (s.respondPlan p m l).running = s.running := rfl
@[simp] theorem State.respondPlan_cbPresent (p : PscCode) (m : OvfCount) (l : Count8) : (s.respondPlan p m l).cbPresent = s.cbPresent := rfl
@[simp] theorem State.respondPlan_cbToken (p : PscCode) (m : OvfCount) (l : Count8) : (s.respondPlan p m l).cbToken = s.cbToken := rfl
@[simp] theorem State.respondPlan_planDelay (p : PscCode) (m : OvfCount) (l : Count8) : (s.respondPlan p m l).planDelay = s.planDelay := rfl
@[simp] theorem State.respondPlan_planPsc (p : PscCode) (m : OvfCount) (l : Count8) : (s.respondPlan p m l).planPsc = s.planPsc := rfl
@[simp] theorem State.respondPlan_maxOvf (p : PscCode) (m : OvfCount) (l : Count8) : (s.respondPlan p m l).maxOvf = s.maxOvf := rfl
@[simp] theorem State.respondPlan_lastTicks (p : PscCode) (m : OvfCount) (l : Count8) : (s.respondPlan p m l).lastTicks = s.lastTicks := rfl
@[simp] theorem State.respondPlan_gie (p : PscCode) (m : OvfCount) (l : Count8) : (s.respondPlan p m l).gie = s.gie := rfl
@[simp] theorem State.respondPlan_faultMark (p : PscCode) (m : OvfCount) (l : Count8) : (s.respondPlan p m l).faultMark = s.faultMark := rfl
@[simp] theorem State.respondPlan_refusedMark (p : PscCode) (m : OvfCount) (l : Count8) : (s.respondPlan p m l).refusedMark = s.refusedMark := rfl
@[simp] theorem State.respondPlan_responses (p : PscCode) (m : OvfCount) (l : Count8) : (s.respondPlan p m l).responses = s.responses ++ [⟨.ok, p, m, l⟩] := rfl
@[simp] theorem State.respondPlan_events (p : PscCode) (m : OvfCount) (l : Count8) : (s.respondPlan p m l).events = s.events := rfl
@[simp] theorem State.respondPlan_schedule (p : PscCode) (m : OvfCount) (l : Count8) : (s.respondPlan p m l).schedule = s.schedule := rfl
@[simp] theorem State.respondPlan_choices (p : PscCode) (m : OvfCount) (l : Count8) : (s.respondPlan p m l).choices = s.choices := rfl
@[simp] theorem State.respondPlan_fCpu (p : PscCode) (m : OvfCount) (l : Count8) : (s.respondPlan p m l).fCpu = s.fCpu := rfl

@[simp] theorem State.emit_wgm (tok : Token) : (s.emit tok).wgm = s.wgm := rfl
@[simp] theorem State.emit_cs (tok : Token) : (s.emit tok).cs = s.cs := rfl
@[simp] theorem State.emit_tcnt (tok : Token) : (s.emit tok).tcnt = s.tcnt := rfl
@[simp] theorem State.emit_toie (tok : Token) : (s.emit tok).toie = s.toie := rfl
@[simp] theorem State.emit_ocie (tok : Token) : (s.emit tok).ocie = s.ocie := rfl
@[simp] theorem State.emit_tov (tok : Token) : (s.emit tok).tov = s.tov := rfl
@[simp] theorem State.emit_divisor (tok : Token) : (s.emit tok).divisor = s.divisor := rfl
@[simp] theorem State.emit_curOvf (tok : Token) : (s.emit tok).curOvf = s.curOvf := rfl
@[simp] theorem State.emit_running (tok : Token) : (s.emit tok).running = s.running := rfl
@[simp] theorem State.emit_cbPresent (tok : Token) : (s.emit tok).cbPresent = s.cbPresent := rfl
@[simp] theorem State.emit_cbToken (tok : Token) : (s.emit tok).cbToken = s.cbToken := rfl
@[simp] theorem State.emit_planDelay (tok : Token) : (s.emit tok).planDelay = s.planDelay := rfl
@[simp] theorem State.emit_planPsc (tok : Token) : (s.emit tok).planPsc = s.planPsc := rfl
@[simp] theorem State.emit_maxOvf (tok : Token) : (s.emit tok).maxOvf = s.maxOvf := rfl
@[simp] theorem State.emit_lastTicks (tok : Token) : (s.emit tok).lastTicks = s.lastTicks := rfl
@[simp] theorem State.emit_gie (tok : Token) : (s.emit tok).gie = s.gie := rfl
@[simp] theorem State.emit_faultMark (tok : Token) : (s.emit tok).faultMark = s.faultMark := rfl
@[simp] theorem State.emit_refusedMark (tok : Token) : (s.emit tok).refusedMark = s.refusedMark := rfl
@[simp] theorem State.emit_responses (tok : Token) : (s.emit tok).responses = s.responses := rfl
@[simp] theorem State.emit_events (tok : Token) : (s.emit tok).events = s.events ++ [tok] := rfl
@[simp] theorem State.emit_schedule (tok : Token) : (s.emit tok).schedule = s.schedule := rfl
@[simp] theorem State.emit_choices (tok : Token) : (s.emit tok).choices = s.choices := rfl
@[simp] theorem State.emit_fCpu (tok : Token) : (s.emit tok).fCpu = s.fCpu := rfl

@[simp] theorem State.raise_wgm (k : Fault) : (s.raise k).wgm = s.wgm := rfl
@[simp] theorem State.raise_cs (k : Fault) : (s.raise k).cs = s.cs := rfl
@[simp] theorem State.raise_tcnt (k : Fault) : (s.raise k).tcnt = s.tcnt := rfl
@[simp] theorem State.raise_toie (k : Fault) : (s.raise k).toie = s.toie := rfl
@[simp] theorem State.raise_ocie (k : Fault) : (s.raise k).ocie = s.ocie := rfl
@[simp] theorem State.raise_tov (k : Fault) : (s.raise k).tov = s.tov := rfl
@[simp] theorem State.raise_divisor (k : Fault) : (s.raise k).divisor = s.divisor := rfl
@[simp] theorem State.raise_curOvf (k : Fault) : (s.raise k).curOvf = s.curOvf := rfl
@[simp] theorem State.raise_running (k : Fault) : (s.raise k).running = s.running := rfl
@[simp] theorem State.raise_cbPresent (k : Fault) : (s.raise k).cbPresent = s.cbPresent := rfl
@[simp] theorem State.raise_cbToken (k : Fault) : (s.raise k).cbToken = s.cbToken := rfl
@[simp] theorem State.raise_planDelay (k : Fault) : (s.raise k).planDelay = s.planDelay := rfl
@[simp] theorem State.raise_planPsc (k : Fault) : (s.raise k).planPsc = s.planPsc := rfl
@[simp] theorem State.raise_maxOvf (k : Fault) : (s.raise k).maxOvf = s.maxOvf := rfl
@[simp] theorem State.raise_lastTicks (k : Fault) : (s.raise k).lastTicks = s.lastTicks := rfl
@[simp] theorem State.raise_gie (k : Fault) : (s.raise k).gie = s.gie := rfl
@[simp] theorem State.raise_faultMark (k : Fault) : (s.raise k).faultMark = some k := rfl
@[simp] theorem State.raise_refusedMark (k : Fault) : (s.raise k).refusedMark = s.refusedMark := rfl
@[simp] theorem State.raise_responses (k : Fault) : (s.raise k).responses = s.responses := rfl
@[simp] theorem State.raise_events (k : Fault) : (s.raise k).events = s.events := rfl
@[simp] theorem State.raise_schedule (k : Fault) : (s.raise k).schedule = s.schedule := rfl
@[simp] theorem State.raise_choices (k : Fault) : (s.raise k).choices = s.choices := rfl
@[simp] theorem State.raise_fCpu (k : Fault) : (s.raise k).fCpu = s.fCpu := rfl

@[simp] theorem State.refuse_wgm (k : Refusal) : (s.refuse k).wgm = s.wgm := rfl
@[simp] theorem State.refuse_cs (k : Refusal) : (s.refuse k).cs = s.cs := rfl
@[simp] theorem State.refuse_tcnt (k : Refusal) : (s.refuse k).tcnt = s.tcnt := rfl
@[simp] theorem State.refuse_toie (k : Refusal) : (s.refuse k).toie = s.toie := rfl
@[simp] theorem State.refuse_ocie (k : Refusal) : (s.refuse k).ocie = s.ocie := rfl
@[simp] theorem State.refuse_tov (k : Refusal) : (s.refuse k).tov = s.tov := rfl
@[simp] theorem State.refuse_divisor (k : Refusal) : (s.refuse k).divisor = s.divisor := rfl
@[simp] theorem State.refuse_curOvf (k : Refusal) : (s.refuse k).curOvf = s.curOvf := rfl
@[simp] theorem State.refuse_running (k : Refusal) : (s.refuse k).running = s.running := rfl
@[simp] theorem State.refuse_cbPresent (k : Refusal) : (s.refuse k).cbPresent = s.cbPresent := rfl
@[simp] theorem State.refuse_cbToken (k : Refusal) : (s.refuse k).cbToken = s.cbToken := rfl
@[simp] theorem State.refuse_planDelay (k : Refusal) : (s.refuse k).planDelay = s.planDelay := rfl
@[simp] theorem State.refuse_planPsc (k : Refusal) : (s.refuse k).planPsc = s.planPsc := rfl
@[simp] theorem State.refuse_maxOvf (k : Refusal) : (s.refuse k).maxOvf = s.maxOvf := rfl
@[simp] theorem State.refuse_lastTicks (k : Refusal) : (s.refuse k).lastTicks = s.lastTicks := rfl
@[simp] theorem State.refuse_gie (k : Refusal) : (s.refuse k).gie = s.gie := rfl
@[simp] theorem State.refuse_faultMark (k : Refusal) : (s.refuse k).faultMark = s.faultMark := rfl
@[simp] theorem State.refuse_refusedMark (k : Refusal) : (s.refuse k).refusedMark = some k := rfl
@[simp] theorem State.refuse_responses (k : Refusal) : (s.refuse k).responses = s.responses := rfl
@[simp] theorem State.refuse_events (k : Refusal) : (s.refuse k).events = s.events := rfl
@[simp] theorem State.refuse_schedule (k : Refusal) : (s.refuse k).schedule = s.schedule := rfl
@[simp] theorem State.refuse_choices (k : Refusal) : (s.refuse k).choices = s.choices := rfl
@[simp] theorem State.refuse_fCpu (k : Refusal) : (s.refuse k).fCpu = s.fCpu := rfl

@[simp] theorem State.initEffect_wgm (m : ModeCode) (p : PscCode) : (s.initEffect m p).wgm = m := rfl
@[simp] theorem State.initEffect_cs (m : ModeCode) (p : PscCode) : (s.initEffect m p).cs = p := rfl
@[simp] theorem State.initEffect_tcnt (m : ModeCode) (p : PscCode) : (s.initEffect m p).tcnt = s.tcnt := rfl
@[simp] theorem State.initEffect_toie (m : ModeCode) (p : PscCode) : (s.initEffect m p).toie = s.toie := rfl
@[simp] theorem State.initEffect_ocie (m : ModeCode) (p : PscCode) : (s.initEffect m p).ocie = s.ocie := rfl
@[simp] theorem State.initEffect_tov (m : ModeCode) (p : PscCode) : (s.initEffect m p).tov = s.tov := rfl
@[simp] theorem State.initEffect_divisor (m : ModeCode) (p : PscCode) : (s.initEffect m p).divisor = divisorOf p := rfl
@[simp] theorem State.initEffect_curOvf (m : ModeCode) (p : PscCode) : (s.initEffect m p).curOvf = 0#64 := rfl
@[simp] theorem State.initEffect_running (m : ModeCode) (p : PscCode) : (s.initEffect m p).running = false := rfl
@[simp] theorem State.initEffect_cbPresent (m : ModeCode) (p : PscCode) : (s.initEffect m p).cbPresent = s.cbPresent := rfl
@[simp] theorem State.initEffect_cbToken (m : ModeCode) (p : PscCode) : (s.initEffect m p).cbToken = s.cbToken := rfl
@[simp] theorem State.initEffect_planDelay (m : ModeCode) (p : PscCode) : (s.initEffect m p).planDelay = s.planDelay := rfl
@[simp] theorem State.initEffect_planPsc (m : ModeCode) (p : PscCode) : (s.initEffect m p).planPsc = s.planPsc := rfl
@[simp] theorem State.initEffect_maxOvf (m : ModeCode) (p : PscCode) : (s.initEffect m p).maxOvf = s.maxOvf := rfl
@[simp] theorem State.initEffect_lastTicks (m : ModeCode) (p : PscCode) : (s.initEffect m p).lastTicks = s.lastTicks := rfl
@[simp] theorem State.initEffect_gie (m : ModeCode) (p : PscCode) : (s.initEffect m p).gie = s.gie := rfl
@[simp] theorem State.initEffect_faultMark (m : ModeCode) (p : PscCode) : (s.initEffect m p).faultMark = s.faultMark := rfl
@[simp] theorem State.initEffect_refusedMark (m : ModeCode) (p : PscCode) : (s.initEffect m p).refusedMark = s.refusedMark := rfl
@[simp] theorem State.initEffect_responses (m : ModeCode) (p : PscCode) : (s.initEffect m p).responses = s.responses := rfl
@[simp] theorem State.initEffect_events (m : ModeCode) (p : PscCode) : (s.initEffect m p).events = s.events := rfl
@[simp] theorem State.initEffect_schedule (m : ModeCode) (p : PscCode) : (s.initEffect m p).schedule = s.schedule := rfl
@[simp] theorem State.initEffect_choices (m : ModeCode) (p : PscCode) : (s.initEffect m p).choices = s.choices := rfl
@[simp] theorem State.initEffect_fCpu (m : ModeCode) (p : PscCode) : (s.initEffect m p).fCpu = s.fCpu := rfl

@[simp] theorem State.stopEffect_wgm : s.stopEffect.wgm = 0#2 := rfl
@[simp] theorem State.stopEffect_cs : s.stopEffect.cs = 0#3 := rfl
@[simp] theorem State.stopEffect_tcnt : s.stopEffect.tcnt = s.tcnt := rfl
@[simp] theorem State.stopEffect_toie : s.stopEffect.toie = false := rfl
@[simp] theorem State.stopEffect_ocie : s.stopEffect.ocie = false := rfl
@[simp] theorem State.stopEffect_tov : s.stopEffect.tov = false := rfl
@[simp] theorem State.stopEffect_divisor : s.stopEffect.divisor = 0#11 := rfl
@[simp] theorem State.stopEffect_curOvf : s.stopEffect.curOvf = 0#64 := rfl
@[simp] theorem State.stopEffect_running : s.stopEffect.running = false := rfl
@[simp] theorem State.stopEffect_cbPresent : s.stopEffect.cbPresent = s.cbPresent := rfl
@[simp] theorem State.stopEffect_cbToken : s.stopEffect.cbToken = s.cbToken := rfl
@[simp] theorem State.stopEffect_planDelay : s.stopEffect.planDelay = s.planDelay := rfl
@[simp] theorem State.stopEffect_planPsc : s.stopEffect.planPsc = s.planPsc := rfl
@[simp] theorem State.stopEffect_maxOvf : s.stopEffect.maxOvf = 0#64 := rfl
@[simp] theorem State.stopEffect_lastTicks : s.stopEffect.lastTicks = 0#8 := rfl
@[simp] theorem State.stopEffect_gie : s.stopEffect.gie = s.gie := rfl
@[simp] theorem State.stopEffect_faultMark : s.stopEffect.faultMark = s.faultMark := rfl
@[simp] theorem State.stopEffect_refusedMark : s.stopEffect.refusedMark = s.refusedMark := rfl
@[simp] theorem State.stopEffect_responses : s.stopEffect.responses = s.responses := rfl
@[simp] theorem State.stopEffect_events : s.stopEffect.events = s.events := rfl
@[simp] theorem State.stopEffect_schedule : s.stopEffect.schedule = s.schedule := rfl
@[simp] theorem State.stopEffect_choices : s.stopEffect.choices = s.choices := rfl
@[simp] theorem State.stopEffect_fCpu : s.stopEffect.fCpu = s.fCpu := rfl

@[simp] theorem State.startEffect_wgm (p : Plan) (cbp : Bool) (d : Delay) (t : Token) : (s.startEffect p cbp d t).wgm = 0#2 := rfl
@[simp] theorem State.startEffect_cs (p : Plan) (cbp : Bool) (d : Delay) (t : Token) : (s.startEffect p cbp d t).cs = p.psc := rfl
@[simp] theorem State.startEffect_tcnt (p : Plan) (cbp : Bool) (d : Delay) (t : Token) : (s.startEffect p cbp d t).tcnt = (if p.maxOvf = 0#64 then reload p.lastTicks else 0#8) := rfl
@[simp] theorem State.startEffect_toie (p : Plan) (cbp : Bool) (d : Delay) (t : Token) : (s.startEffect p cbp d t).toie = true := rfl
@[simp] theorem State.startEffect_ocie (p : Plan) (cbp : Bool) (d : Delay) (t : Token) : (s.startEffect p cbp d t).ocie = s.ocie := rfl
@[simp] theorem State.startEffect_tov (p : Plan) (cbp : Bool) (d : Delay) (t : Token) : (s.startEffect p cbp d t).tov = false := rfl
@[simp] theorem State.startEffect_divisor (p : Plan) (cbp : Bool) (d : Delay) (t : Token) : (s.startEffect p cbp d t).divisor = divisorOf p.psc := rfl
@[simp] theorem State.startEffect_curOvf (p : Plan) (cbp : Bool) (d : Delay) (t : Token) : (s.startEffect p cbp d t).curOvf = 0#64 := rfl
@[simp] theorem State.startEffect_running (p : Plan) (cbp : Bool) (d : Delay) (t : Token) : (s.startEffect p cbp d t).running = true := rfl
@[simp] theorem State.startEffect_cbPresent (p : Plan) (cbp : Bool) (d : Delay) (t : Token) : (s.startEffect p cbp d t).cbPresent = cbp := rfl
@[simp] theorem State.startEffect_cbToken (p : Plan) (cbp : Bool) (d : Delay) (t : Token) : (s.startEffect p cbp d t).cbToken = (if cbp then t else 0#16) := rfl
@[simp] theorem State.startEffect_planDelay (p : Plan) (cbp : Bool) (d : Delay) (t : Token) : (s.startEffect p cbp d t).planDelay = d := rfl
@[simp] theorem State.startEffect_planPsc (p : Plan) (cbp : Bool) (d : Delay) (t : Token) : (s.startEffect p cbp d t).planPsc = p.psc := rfl
@[simp] theorem State.startEffect_maxOvf (p : Plan) (cbp : Bool) (d : Delay) (t : Token) : (s.startEffect p cbp d t).maxOvf = p.maxOvf := rfl
@[simp] theorem State.startEffect_lastTicks (p : Plan) (cbp : Bool) (d : Delay) (t : Token) : (s.startEffect p cbp d t).lastTicks = p.lastTicks := rfl
@[simp] theorem State.startEffect_gie (p : Plan) (cbp : Bool) (d : Delay) (t : Token) : (s.startEffect p cbp d t).gie = s.gie := rfl
@[simp] theorem State.startEffect_faultMark (p : Plan) (cbp : Bool) (d : Delay) (t : Token) : (s.startEffect p cbp d t).faultMark = s.faultMark := rfl
@[simp] theorem State.startEffect_refusedMark (p : Plan) (cbp : Bool) (d : Delay) (t : Token) : (s.startEffect p cbp d t).refusedMark = s.refusedMark := rfl
@[simp] theorem State.startEffect_responses (p : Plan) (cbp : Bool) (d : Delay) (t : Token) : (s.startEffect p cbp d t).responses = s.responses := rfl
@[simp] theorem State.startEffect_events (p : Plan) (cbp : Bool) (d : Delay) (t : Token) : (s.startEffect p cbp d t).events = s.events := rfl
@[simp] theorem State.startEffect_schedule (p : Plan) (cbp : Bool) (d : Delay) (t : Token) : (s.startEffect p cbp d t).schedule = s.schedule := rfl
@[simp] theorem State.startEffect_choices (p : Plan) (cbp : Bool) (d : Delay) (t : Token) : (s.startEffect p cbp d t).choices = s.choices := rfl
@[simp] theorem State.startEffect_fCpu (p : Plan) (cbp : Bool) (d : Delay) (t : Token) : (s.startEffect p cbp d t).fCpu = s.fCpu := rfl

@[simp] theorem State.consumeFull_wgm : s.consumeFull.wgm = s.wgm := rfl
@[simp] theorem State.consumeFull_cs : s.consumeFull.cs = s.cs := rfl
@[simp] theorem State.consumeFull_tcnt : s.consumeFull.tcnt = s.tcnt := rfl
@[simp] theorem State.consumeFull_toie : s.consumeFull.toie = s.toie := rfl
@[simp] theorem State.consumeFull_ocie : s.consumeFull.ocie = s.ocie := rfl
@[simp] theorem State.consumeFull_tov : s.consumeFull.tov = false := rfl
@[simp] theorem State.consumeFull_divisor : s.consumeFull.divisor = s.divisor := rfl
@[simp] theorem State.consumeFull_curOvf : s.consumeFull.curOvf = s.curOvf + 1#64 := rfl
@[simp] theorem State.consumeFull_running : s.consumeFull.running = s.running := rfl
@[simp] theorem State.consumeFull_cbPresent : s.consumeFull.cbPresent = s.cbPresent := rfl
@[simp] theorem State.consumeFull_cbToken : s.consumeFull.cbToken = s.cbToken := rfl
@[simp] theorem State.consumeFull_planDelay : s.consumeFull.planDelay = s.planDelay := rfl
@[simp] theorem State.consumeFull_planPsc : s.consumeFull.planPsc = s.planPsc := rfl
@[simp] theorem State.consumeFull_maxOvf : s.consumeFull.maxOvf = s.maxOvf := rfl
@[simp] theorem State.consumeFull_lastTicks : s.consumeFull.lastTicks = s.lastTicks := rfl
@[simp] theorem State.consumeFull_gie : s.consumeFull.gie = s.gie := rfl
@[simp] theorem State.consumeFull_faultMark : s.consumeFull.faultMark = s.faultMark := rfl
@[simp] theorem State.consumeFull_refusedMark : s.consumeFull.refusedMark = s.refusedMark := rfl
@[simp] theorem State.consumeFull_responses : s.consumeFull.responses = s.responses := rfl
@[simp] theorem State.consumeFull_events : s.consumeFull.events = s.events := rfl
@[simp] theorem State.consumeFull_schedule : s.consumeFull.schedule = s.schedule := rfl
@[simp] theorem State.consumeFull_choices : s.consumeFull.choices = s.choices := rfl
@[simp] theorem State.consumeFull_fCpu : s.consumeFull.fCpu = s.fCpu := rfl

@[simp] theorem State.loadCompensating_wgm : s.loadCompensating.wgm = s.wgm := rfl
@[simp] theorem State.loadCompensating_cs : s.loadCompensating.cs = s.cs := rfl
@[simp] theorem State.loadCompensating_tcnt : s.loadCompensating.tcnt = reload s.lastTicks := rfl
@[simp] theorem State.loadCompensating_toie : s.loadCompensating.toie = s.toie := rfl
@[simp] theorem State.loadCompensating_ocie : s.loadCompensating.ocie = s.ocie := rfl
@[simp] theorem State.loadCompensating_tov : s.loadCompensating.tov = false := rfl
@[simp] theorem State.loadCompensating_divisor : s.loadCompensating.divisor = s.divisor := rfl
@[simp] theorem State.loadCompensating_curOvf : s.loadCompensating.curOvf = s.curOvf + 1#64 := rfl
@[simp] theorem State.loadCompensating_running : s.loadCompensating.running = s.running := rfl
@[simp] theorem State.loadCompensating_cbPresent : s.loadCompensating.cbPresent = s.cbPresent := rfl
@[simp] theorem State.loadCompensating_cbToken : s.loadCompensating.cbToken = s.cbToken := rfl
@[simp] theorem State.loadCompensating_planDelay : s.loadCompensating.planDelay = s.planDelay := rfl
@[simp] theorem State.loadCompensating_planPsc : s.loadCompensating.planPsc = s.planPsc := rfl
@[simp] theorem State.loadCompensating_maxOvf : s.loadCompensating.maxOvf = s.maxOvf := rfl
@[simp] theorem State.loadCompensating_lastTicks : s.loadCompensating.lastTicks = s.lastTicks := rfl
@[simp] theorem State.loadCompensating_gie : s.loadCompensating.gie = s.gie := rfl
@[simp] theorem State.loadCompensating_faultMark : s.loadCompensating.faultMark = s.faultMark := rfl
@[simp] theorem State.loadCompensating_refusedMark : s.loadCompensating.refusedMark = s.refusedMark := rfl
@[simp] theorem State.loadCompensating_responses : s.loadCompensating.responses = s.responses := rfl
@[simp] theorem State.loadCompensating_events : s.loadCompensating.events = s.events := rfl
@[simp] theorem State.loadCompensating_schedule : s.loadCompensating.schedule = s.schedule := rfl
@[simp] theorem State.loadCompensating_choices : s.loadCompensating.choices = s.choices := rfl
@[simp] theorem State.loadCompensating_fCpu : s.loadCompensating.fCpu = s.fCpu := rfl

@[simp] theorem State.enterInterrupt_wgm : s.enterInterrupt.wgm = s.wgm := rfl
@[simp] theorem State.enterInterrupt_cs : s.enterInterrupt.cs = s.cs := rfl
@[simp] theorem State.enterInterrupt_tcnt : s.enterInterrupt.tcnt = s.tcnt := rfl
@[simp] theorem State.enterInterrupt_toie : s.enterInterrupt.toie = s.toie := rfl
@[simp] theorem State.enterInterrupt_ocie : s.enterInterrupt.ocie = s.ocie := rfl
@[simp] theorem State.enterInterrupt_tov : s.enterInterrupt.tov = false := rfl
@[simp] theorem State.enterInterrupt_divisor : s.enterInterrupt.divisor = s.divisor := rfl
@[simp] theorem State.enterInterrupt_curOvf : s.enterInterrupt.curOvf = s.curOvf := rfl
@[simp] theorem State.enterInterrupt_running : s.enterInterrupt.running = s.running := rfl
@[simp] theorem State.enterInterrupt_cbPresent : s.enterInterrupt.cbPresent = s.cbPresent := rfl
@[simp] theorem State.enterInterrupt_cbToken : s.enterInterrupt.cbToken = s.cbToken := rfl
@[simp] theorem State.enterInterrupt_planDelay : s.enterInterrupt.planDelay = s.planDelay := rfl
@[simp] theorem State.enterInterrupt_planPsc : s.enterInterrupt.planPsc = s.planPsc := rfl
@[simp] theorem State.enterInterrupt_maxOvf : s.enterInterrupt.maxOvf = s.maxOvf := rfl
@[simp] theorem State.enterInterrupt_lastTicks : s.enterInterrupt.lastTicks = s.lastTicks := rfl
@[simp] theorem State.enterInterrupt_gie : s.enterInterrupt.gie = s.gie := rfl
@[simp] theorem State.enterInterrupt_faultMark : s.enterInterrupt.faultMark = s.faultMark := rfl
@[simp] theorem State.enterInterrupt_refusedMark : s.enterInterrupt.refusedMark = s.refusedMark := rfl
@[simp] theorem State.enterInterrupt_responses : s.enterInterrupt.responses = s.responses := rfl
@[simp] theorem State.enterInterrupt_events : s.enterInterrupt.events = s.events := rfl
@[simp] theorem State.enterInterrupt_schedule : s.enterInterrupt.schedule = s.schedule := rfl
@[simp] theorem State.enterInterrupt_choices : s.enterInterrupt.choices = s.choices := rfl
@[simp] theorem State.enterInterrupt_fCpu : s.enterInterrupt.fCpu = s.fCpu := rfl

@[simp] theorem State.returnFromInterrupt_wgm : s.returnFromInterrupt.wgm = s.wgm := rfl
@[simp] theorem State.returnFromInterrupt_cs : s.returnFromInterrupt.cs = s.cs := rfl
@[simp] theorem State.returnFromInterrupt_tcnt : s.returnFromInterrupt.tcnt = s.tcnt := rfl
@[simp] theorem State.returnFromInterrupt_toie : s.returnFromInterrupt.toie = s.toie := rfl
@[simp] theorem State.returnFromInterrupt_ocie : s.returnFromInterrupt.ocie = s.ocie := rfl
@[simp] theorem State.returnFromInterrupt_tov : s.returnFromInterrupt.tov = s.tov := rfl
@[simp] theorem State.returnFromInterrupt_divisor : s.returnFromInterrupt.divisor = s.divisor := rfl
@[simp] theorem State.returnFromInterrupt_curOvf : s.returnFromInterrupt.curOvf = s.curOvf := rfl
@[simp] theorem State.returnFromInterrupt_running : s.returnFromInterrupt.running = s.running := rfl
@[simp] theorem State.returnFromInterrupt_cbPresent : s.returnFromInterrupt.cbPresent = s.cbPresent := rfl
@[simp] theorem State.returnFromInterrupt_cbToken : s.returnFromInterrupt.cbToken = s.cbToken := rfl
@[simp] theorem State.returnFromInterrupt_planDelay : s.returnFromInterrupt.planDelay = s.planDelay := rfl
@[simp] theorem State.returnFromInterrupt_planPsc : s.returnFromInterrupt.planPsc = s.planPsc := rfl
@[simp] theorem State.returnFromInterrupt_maxOvf : s.returnFromInterrupt.maxOvf = s.maxOvf := rfl
@[simp] theorem State.returnFromInterrupt_lastTicks : s.returnFromInterrupt.lastTicks = s.lastTicks := rfl
@[simp] theorem State.returnFromInterrupt_gie : s.returnFromInterrupt.gie = s.gie := rfl
@[simp] theorem State.returnFromInterrupt_faultMark : s.returnFromInterrupt.faultMark = s.faultMark := rfl
@[simp] theorem State.returnFromInterrupt_refusedMark : s.returnFromInterrupt.refusedMark = s.refusedMark := rfl
@[simp] theorem State.returnFromInterrupt_responses : s.returnFromInterrupt.responses = s.responses := rfl
@[simp] theorem State.returnFromInterrupt_events : s.returnFromInterrupt.events = s.events := rfl
@[simp] theorem State.returnFromInterrupt_schedule : s.returnFromInterrupt.schedule = s.schedule := rfl
@[simp] theorem State.returnFromInterrupt_choices : s.returnFromInterrupt.choices = s.choices := rfl
@[simp] theorem State.returnFromInterrupt_fCpu : s.returnFromInterrupt.fCpu = s.fCpu := rfl

@[simp] theorem State.expireInterrupt_wgm : s.expireInterrupt.wgm = s.wgm := rfl
@[simp] theorem State.expireInterrupt_cs : s.expireInterrupt.cs = s.cs := rfl
@[simp] theorem State.expireInterrupt_tcnt : s.expireInterrupt.tcnt = s.tcnt := rfl
@[simp] theorem State.expireInterrupt_toie : s.expireInterrupt.toie = s.toie := rfl
@[simp] theorem State.expireInterrupt_ocie : s.expireInterrupt.ocie = s.ocie := rfl
@[simp] theorem State.expireInterrupt_tov : s.expireInterrupt.tov = s.tov := rfl
@[simp] theorem State.expireInterrupt_divisor : s.expireInterrupt.divisor = s.divisor := rfl
@[simp] theorem State.expireInterrupt_curOvf : s.expireInterrupt.curOvf = 0#64 := rfl
@[simp] theorem State.expireInterrupt_running : s.expireInterrupt.running = s.running := rfl
@[simp] theorem State.expireInterrupt_cbPresent : s.expireInterrupt.cbPresent = s.cbPresent := rfl
@[simp] theorem State.expireInterrupt_cbToken : s.expireInterrupt.cbToken = s.cbToken := rfl
@[simp] theorem State.expireInterrupt_planDelay : s.expireInterrupt.planDelay = s.planDelay := rfl
@[simp] theorem State.expireInterrupt_planPsc : s.expireInterrupt.planPsc = s.planPsc := rfl
@[simp] theorem State.expireInterrupt_maxOvf : s.expireInterrupt.maxOvf = s.maxOvf := rfl
@[simp] theorem State.expireInterrupt_lastTicks : s.expireInterrupt.lastTicks = s.lastTicks := rfl
@[simp] theorem State.expireInterrupt_gie : s.expireInterrupt.gie = s.gie := rfl
@[simp] theorem State.expireInterrupt_faultMark : s.expireInterrupt.faultMark = s.faultMark := rfl
@[simp] theorem State.expireInterrupt_refusedMark : s.expireInterrupt.refusedMark = s.refusedMark := rfl
@[simp] theorem State.expireInterrupt_responses : s.expireInterrupt.responses = s.responses := rfl
@[simp] theorem State.expireInterrupt_events : s.expireInterrupt.events = s.events ++ [s.cbToken] := rfl
@[simp] theorem State.expireInterrupt_schedule : s.expireInterrupt.schedule = s.schedule := rfl
@[simp] theorem State.expireInterrupt_choices : s.expireInterrupt.choices = s.choices := rfl
@[simp] theorem State.expireInterrupt_fCpu : s.expireInterrupt.fCpu = s.fCpu := rfl

@[simp] theorem State.count_wgm : s.count.wgm = s.wgm := rfl
@[simp] theorem State.count_cs : s.count.cs = s.cs := rfl
@[simp] theorem State.count_tcnt : s.count.tcnt = s.tcnt + 1#8 := rfl
@[simp] theorem State.count_toie : s.count.toie = s.toie := rfl
@[simp] theorem State.count_ocie : s.count.ocie = s.ocie := rfl
@[simp] theorem State.count_tov : s.count.tov = tovAfterCount s.tcnt s.tov := rfl
@[simp] theorem State.count_divisor : s.count.divisor = s.divisor := rfl
@[simp] theorem State.count_curOvf : s.count.curOvf = s.curOvf := rfl
@[simp] theorem State.count_running : s.count.running = s.running := rfl
@[simp] theorem State.count_cbPresent : s.count.cbPresent = s.cbPresent := rfl
@[simp] theorem State.count_cbToken : s.count.cbToken = s.cbToken := rfl
@[simp] theorem State.count_planDelay : s.count.planDelay = s.planDelay := rfl
@[simp] theorem State.count_planPsc : s.count.planPsc = s.planPsc := rfl
@[simp] theorem State.count_maxOvf : s.count.maxOvf = s.maxOvf := rfl
@[simp] theorem State.count_lastTicks : s.count.lastTicks = s.lastTicks := rfl
@[simp] theorem State.count_gie : s.count.gie = s.gie := rfl
@[simp] theorem State.count_faultMark : s.count.faultMark = s.faultMark := rfl
@[simp] theorem State.count_refusedMark : s.count.refusedMark = s.refusedMark := rfl
@[simp] theorem State.count_responses : s.count.responses = s.responses := rfl
@[simp] theorem State.count_events : s.count.events = s.events := rfl
@[simp] theorem State.count_schedule : s.count.schedule = s.schedule := rfl
@[simp] theorem State.count_choices : s.count.choices = s.choices := rfl
@[simp] theorem State.count_fCpu : s.count.fCpu = s.fCpu := rfl

@[simp] theorem State.setGie_wgm (v : Bool) : (s.setGie v).wgm = s.wgm := rfl
@[simp] theorem State.setGie_cs (v : Bool) : (s.setGie v).cs = s.cs := rfl
@[simp] theorem State.setGie_tcnt (v : Bool) : (s.setGie v).tcnt = s.tcnt := rfl
@[simp] theorem State.setGie_toie (v : Bool) : (s.setGie v).toie = s.toie := rfl
@[simp] theorem State.setGie_ocie (v : Bool) : (s.setGie v).ocie = s.ocie := rfl
@[simp] theorem State.setGie_tov (v : Bool) : (s.setGie v).tov = s.tov := rfl
@[simp] theorem State.setGie_divisor (v : Bool) : (s.setGie v).divisor = s.divisor := rfl
@[simp] theorem State.setGie_curOvf (v : Bool) : (s.setGie v).curOvf = s.curOvf := rfl
@[simp] theorem State.setGie_running (v : Bool) : (s.setGie v).running = s.running := rfl
@[simp] theorem State.setGie_cbPresent (v : Bool) : (s.setGie v).cbPresent = s.cbPresent := rfl
@[simp] theorem State.setGie_cbToken (v : Bool) : (s.setGie v).cbToken = s.cbToken := rfl
@[simp] theorem State.setGie_planDelay (v : Bool) : (s.setGie v).planDelay = s.planDelay := rfl
@[simp] theorem State.setGie_planPsc (v : Bool) : (s.setGie v).planPsc = s.planPsc := rfl
@[simp] theorem State.setGie_maxOvf (v : Bool) : (s.setGie v).maxOvf = s.maxOvf := rfl
@[simp] theorem State.setGie_lastTicks (v : Bool) : (s.setGie v).lastTicks = s.lastTicks := rfl
@[simp] theorem State.setGie_gie (v : Bool) : (s.setGie v).gie = v := rfl
@[simp] theorem State.setGie_faultMark (v : Bool) : (s.setGie v).faultMark = s.faultMark := rfl
@[simp] theorem State.setGie_refusedMark (v : Bool) : (s.setGie v).refusedMark = s.refusedMark := rfl
@[simp] theorem State.setGie_responses (v : Bool) : (s.setGie v).responses = s.responses := rfl
@[simp] theorem State.setGie_events (v : Bool) : (s.setGie v).events = s.events := rfl
@[simp] theorem State.setGie_schedule (v : Bool) : (s.setGie v).schedule = s.schedule := rfl
@[simp] theorem State.setGie_choices (v : Bool) : (s.setGie v).choices = s.choices := rfl
@[simp] theorem State.setGie_fCpu (v : Bool) : (s.setGie v).fCpu = s.fCpu := rfl

@[simp] theorem State.withSchedule_wgm (ms : List Move) : (s.withSchedule ms).wgm = s.wgm := rfl
@[simp] theorem State.withSchedule_cs (ms : List Move) : (s.withSchedule ms).cs = s.cs := rfl
@[simp] theorem State.withSchedule_tcnt (ms : List Move) : (s.withSchedule ms).tcnt = s.tcnt := rfl
@[simp] theorem State.withSchedule_toie (ms : List Move) : (s.withSchedule ms).toie = s.toie := rfl
@[simp] theorem State.withSchedule_ocie (ms : List Move) : (s.withSchedule ms).ocie = s.ocie := rfl
@[simp] theorem State.withSchedule_tov (ms : List Move) : (s.withSchedule ms).tov = s.tov := rfl
@[simp] theorem State.withSchedule_divisor (ms : List Move) : (s.withSchedule ms).divisor = s.divisor := rfl
@[simp] theorem State.withSchedule_curOvf (ms : List Move) : (s.withSchedule ms).curOvf = s.curOvf := rfl
@[simp] theorem State.withSchedule_running (ms : List Move) : (s.withSchedule ms).running = s.running := rfl
@[simp] theorem State.withSchedule_cbPresent (ms : List Move) : (s.withSchedule ms).cbPresent = s.cbPresent := rfl
@[simp] theorem State.withSchedule_cbToken (ms : List Move) : (s.withSchedule ms).cbToken = s.cbToken := rfl
@[simp] theorem State.withSchedule_planDelay (ms : List Move) : (s.withSchedule ms).planDelay = s.planDelay := rfl
@[simp] theorem State.withSchedule_planPsc (ms : List Move) : (s.withSchedule ms).planPsc = s.planPsc := rfl
@[simp] theorem State.withSchedule_maxOvf (ms : List Move) : (s.withSchedule ms).maxOvf = s.maxOvf := rfl
@[simp] theorem State.withSchedule_lastTicks (ms : List Move) : (s.withSchedule ms).lastTicks = s.lastTicks := rfl
@[simp] theorem State.withSchedule_gie (ms : List Move) : (s.withSchedule ms).gie = s.gie := rfl
@[simp] theorem State.withSchedule_faultMark (ms : List Move) : (s.withSchedule ms).faultMark = s.faultMark := rfl
@[simp] theorem State.withSchedule_refusedMark (ms : List Move) : (s.withSchedule ms).refusedMark = s.refusedMark := rfl
@[simp] theorem State.withSchedule_responses (ms : List Move) : (s.withSchedule ms).responses = s.responses := rfl
@[simp] theorem State.withSchedule_events (ms : List Move) : (s.withSchedule ms).events = s.events := rfl
@[simp] theorem State.withSchedule_schedule (ms : List Move) : (s.withSchedule ms).schedule = ms := rfl
@[simp] theorem State.withSchedule_choices (ms : List Move) : (s.withSchedule ms).choices = s.choices := rfl
@[simp] theorem State.withSchedule_fCpu (ms : List Move) : (s.withSchedule ms).fCpu = s.fCpu := rfl

@[simp] theorem State.bumpChoice_wgm : s.bumpChoice.wgm = s.wgm := rfl
@[simp] theorem State.bumpChoice_cs : s.bumpChoice.cs = s.cs := rfl
@[simp] theorem State.bumpChoice_tcnt : s.bumpChoice.tcnt = s.tcnt := rfl
@[simp] theorem State.bumpChoice_toie : s.bumpChoice.toie = s.toie := rfl
@[simp] theorem State.bumpChoice_ocie : s.bumpChoice.ocie = s.ocie := rfl
@[simp] theorem State.bumpChoice_tov : s.bumpChoice.tov = s.tov := rfl
@[simp] theorem State.bumpChoice_divisor : s.bumpChoice.divisor = s.divisor := rfl
@[simp] theorem State.bumpChoice_curOvf : s.bumpChoice.curOvf = s.curOvf := rfl
@[simp] theorem State.bumpChoice_running : s.bumpChoice.running = s.running := rfl
@[simp] theorem State.bumpChoice_cbPresent : s.bumpChoice.cbPresent = s.cbPresent := rfl
@[simp] theorem State.bumpChoice_cbToken : s.bumpChoice.cbToken = s.cbToken := rfl
@[simp] theorem State.bumpChoice_planDelay : s.bumpChoice.planDelay = s.planDelay := rfl
@[simp] theorem State.bumpChoice_planPsc : s.bumpChoice.planPsc = s.planPsc := rfl
@[simp] theorem State.bumpChoice_maxOvf : s.bumpChoice.maxOvf = s.maxOvf := rfl
@[simp] theorem State.bumpChoice_lastTicks : s.bumpChoice.lastTicks = s.lastTicks := rfl
@[simp] theorem State.bumpChoice_gie : s.bumpChoice.gie = s.gie := rfl
@[simp] theorem State.bumpChoice_faultMark : s.bumpChoice.faultMark = s.faultMark := rfl
@[simp] theorem State.bumpChoice_refusedMark : s.bumpChoice.refusedMark = s.refusedMark := rfl
@[simp] theorem State.bumpChoice_responses : s.bumpChoice.responses = s.responses := rfl
@[simp] theorem State.bumpChoice_events : s.bumpChoice.events = s.events := rfl
@[simp] theorem State.bumpChoice_schedule : s.bumpChoice.schedule = s.schedule := rfl
@[simp] theorem State.bumpChoice_choices : s.bumpChoice.choices = s.choices + 1 := rfl
@[simp] theorem State.bumpChoice_fCpu : s.bumpChoice.fCpu = s.fCpu := rfl

/-! Which moves are the host's, and when none is left. -/

@[simp] theorem Move.isHost_command (c : Command) : (Move.command c).isHost = true := rfl
@[simp] theorem Move.isHost_setGie (v : Bool) : (Move.setGie v).isHost = true := rfl
@[simp] theorem Move.isHost_tick : Move.tick.isHost = false := rfl
@[simp] theorem Move.isHost_isr : Move.isr.isHost = false := rfl

/-- No host move is left in a schedule exactly when its first move is none and none is left after it. -/
theorem State.hostDone_cons (m : Move) (rest : List Move) :
    (s.withSchedule (m :: rest)).HostDone ↔ m.isHost = false ∧ (s.withSchedule rest).HostDone := by
  simp [State.HostDone, State.withSchedule]

end Sys2Proof.Machine
end

