-- ==== Sys2Proof/Laws/Ops.lean ====
section
/-! SUPPORT. For each shared operation, once, everything it can do; and for each meaning, once, every next state it
can answer. Later proofs cite these and unfold nothing. -/

namespace Sys2Proof.Machine

/-! ## Enabling -/

theorem unlessMarked_of_live {s : State} (h : s.Live) (body : StepResult) : unlessMarked s body = body := by
  simp [unlessMarked, h.1, h.2]

theorem unlessMarked_next {s t : State} {body : StepResult} (h : unlessMarked s body = .next t) :
    s.Live ∧ body = .next t := by
  unfold unlessMarked at h
  split at h
  · cases h
  · cases h
  · exact ⟨⟨‹_›, ‹_›⟩, h⟩

theorem unlessMarked_fault {s : State} {f : Fault} (h : s.faultMark = some f) (body : StepResult) :
    unlessMarked s body = .fault f := by
  simp [unlessMarked, h]

theorem unlessMarked_refused {s : State} {r : Refusal} (hf : s.faultMark = none) (h : s.refusedMark = some r)
    (body : StepResult) : unlessMarked s body = .refused r := by
  simp [unlessMarked, hf, h]

theorem hostCommand_of_ready {s : State} (h : s.Ready) (body : State → State) :
    hostCommand s body = .next (body s) := by
  simp [hostCommand, unlessMarked_of_live h.1, h.2]

theorem hostCommand_of_pending {s : State} (hl : s.Live) (hp : s.irqPending = true) (body : State → State) :
    hostCommand s body = .next s := by
  simp [hostCommand, unlessMarked_of_live hl, hp]

/-- A command of the host is held, or it is carried out from a ready state. -/
theorem hostCommand_next {s t : State} {body : State → State} (h : hostCommand s body = .next t) :
    s.Live ∧ (s.irqPending = true ∧ t = s ∨ s.irqPending = false ∧ t = body s) := by
  obtain ⟨hl, hb⟩ := unlessMarked_next h
  refine ⟨hl, ?_⟩
  cases hp : s.irqPending <;> simp_all

/-! ## Steps in a row -/

@[simp] theorem andThen_next (t : State) (k : State → StepResult) : andThen (.next t) k = k t := rfl

@[simp] theorem tickTimes_zero (s : State) : tickTimes 0 s = .next s := rfl
theorem tickTimes_succ (n : Nat) (s : State) : tickTimes (n + 1) s = andThen (exec .tick s) (tickTimes n) := rfl

@[simp] theorem eagerTicks_zero (s : State) : eagerTicks 0 s = .next s := rfl
theorem eagerTicks_succ (n : Nat) (s : State) :
    eagerTicks (n + 1) s = andThen (andThen (exec .tick s) (exec .ovfIsr)) (eagerTicks n) := rfl

@[simp] theorem overflowsThen_nil (i : Instr) (s : State) : overflowsThen i [] s = .next s := rfl
theorem overflowsThen_cons (i : Instr) (c : Count8) (cs : List Count8) (s : State) :
    overflowsThen i (c :: cs) s = andThen (exec i { s with tcnt := c, tov := true }) (overflowsThen i cs) := rfl

/-- Two steps in a row give a next state exactly when both do. -/
theorem andThen_eq_next {first : StepResult} {second : State → StepResult} {u : State}
    (h : andThen first second = .next u) : ∃ t, first = .next t ∧ second t = .next u := by
  cases first with
  | next t    => exact ⟨t, rfl, h⟩
  | fault f   => cases h
  | refused r => cases h

/-! ## Response codes -/

@[simp] theorem byte_ok : RespCode.ok.byte = 0x00#8 := rfl
@[simp] theorem byte_running : RespCode.running.byte = 0x01#8 := rfl
@[simp] theorem byte_expired : RespCode.expired.byte = 0x02#8 := rfl
@[simp] theorem byte_invalidMode : RespCode.invalidMode.byte = 0x10#8 := rfl
@[simp] theorem byte_invalidPrescaler : RespCode.invalidPrescaler.byte = 0x11#8 := rfl
@[simp] theorem byte_invalidDelay : RespCode.invalidDelay.byte = 0x12#8 := rfl
@[simp] theorem byte_missingCallback : RespCode.missingCallback.byte = 0x13#8 := rfl
@[simp] theorem byte_illegalCommand : RespCode.illegalCommand.byte = 0x1F#8 := rfl

/-- The response outputs right after a response with no data (R77). -/
theorem respond_outputs (s : State) (code : RespCode) :
    (s.respond code).responseOut = code.byte ∧ (s.respond code).pscOut = 0#3 ∧ (s.respond code).maxOut = 0#64 ∧
      (s.respond code).lastOut = 0#8 := by
  simp [State.respond, State.responseOut, State.pscOut, State.maxOut, State.lastOut, State.lastResponse]

/-! ## The calculator and the counting logic -/

theorem plan_zero (f : BitVec 32) : plan f 0#64 = none := by simp [plan]

theorem plan_of_ne {f : BitVec 32} {d : Delay} (h : d ≠ 0#64) :
    plan f d = some ⟨selectPsc d.toNat, BitVec.ofNat 64 (planMax f d.toNat), BitVec.ofNat 8 (planLast f d.toNat)⟩ := by
  simp [plan, h]

/-- The prescaler the calculator selects is one of the four numeric codes 2 to 5. -/
theorem selectPsc_cases (d : Nat) :
    selectPsc d = 2#3 ∨ selectPsc d = 3#3 ∨ selectPsc d = 4#3 ∨ selectPsc d = 5#3 := by
  unfold selectPsc
  split
  · exact .inl rfl
  · split
    · exact .inr (.inl rfl)
    · split
      · exact .inr (.inr (.inl rfl))
      · exact .inr (.inr (.inr rfl))

/-- The divisor of the selected prescaler, by the thresholds (R92). -/
theorem selectPsc_divisor (d : Nat) :
    (divisorOf (selectPsc d)).toNat = if d ≤ 256 then 8 else if d ≤ 2048 then 64 else if d ≤ 8192 then 256 else 1024 := by
  unfold selectPsc Config.thrA Config.thrB Config.thrC
  by_cases h1 : d ≤ 256
  · simp only [h1, if_true]; rfl
  by_cases h2 : d ≤ 2048
  · simp only [h1, h2, if_true, if_false]; rfl
  by_cases h3 : d ≤ 8192
  · simp only [h1, h2, h3, if_true, if_false]; rfl
  · simp only [h1, h2, h3, if_false]; rfl

theorem reload_toNat (l : Count8) : (reload l).toNat = (256 - l.toNat) % 256 := by
  simp [reload]

/-- The three branches of the counting logic. -/
theorem countOverflow_cases (s : State) :
    (s.curOvf < s.maxOvf ∧ s.countOverflow = some s.consumeFull) ∨
    (s.curOvf = s.maxOvf ∧ s.countOverflow = some s.loadCompensating) ∨
    (s.maxOvf < s.curOvf ∧ s.countOverflow = none) := by
  unfold State.countOverflow
  split
  · exact .inl ⟨‹_›, rfl⟩
  · split
    · exact .inr (.inl ⟨‹_›, rfl⟩)
    · exact .inr (.inr ⟨by bv_omega, rfl⟩)

theorem countOverflow_of_lt {s : State} (h : s.curOvf < s.maxOvf) : s.countOverflow = some s.consumeFull := by
  simp [State.countOverflow, h]

theorem countOverflow_of_eq {s : State} (h : s.curOvf = s.maxOvf) : s.countOverflow = some s.loadCompensating := by
  simp [State.countOverflow, h]

theorem countOverflow_of_gt {s : State} (h : s.maxOvf < s.curOvf) : s.countOverflow = none := by
  have h1 : ¬ s.curOvf < s.maxOvf := by bv_omega
  have h2 : s.curOvf ≠ s.maxOvf := by bv_omega
  simp [State.countOverflow, h1, h2]

/-- Entering the interrupt does not change which branch the counting logic takes. -/
theorem enterInterrupt_countOverflow_cases (s : State) :
    (s.curOvf < s.maxOvf ∧ s.enterInterrupt.countOverflow = some s.consumeFull) ∨
    (s.curOvf = s.maxOvf ∧ s.enterInterrupt.countOverflow = some s.loadCompensating) ∨
    (s.maxOvf < s.curOvf ∧ s.enterInterrupt.countOverflow = none) := by
  simpa [State.enterInterrupt, State.consumeFull, State.loadCompensating] using
    countOverflow_cases s.enterInterrupt

theorem emitIfPresent_full {s : State} (h : s.cbPresent = true) : s.emitIfPresent = s.emit s.cbToken := by
  simp [State.emitIfPresent, h]

theorem emitIfPresent_empty {s : State} (h : s.cbPresent = false) : s.emitIfPresent = s := by
  simp [State.emitIfPresent, h]

/-! ## The dispatch -/

@[simp] theorem exec_init (mode psc : BitVec 8) (s : State) : exec (.init mode psc) s = execInit mode psc s := rfl
@[simp] theorem exec_start (cbp : Bool) (d : Delay) (tok : Token) (s : State) :
    exec (.start cbp d tok) s = execStart cbp d tok s := rfl
@[simp] theorem exec_stop (s : State) : exec .stop s = execStop s := rfl
@[simp] theorem exec_getStatus (s : State) : exec .getStatus s = execGetStatus s := rfl
@[simp] theorem exec_plan (d : Delay) (s : State) : exec (.plan d) s = execPlan d s := rfl
@[simp] theorem exec_tick (s : State) : exec .tick s = execTick s := rfl
@[simp] theorem exec_ovfIsr (s : State) : exec .ovfIsr s = execOvfIsr s := rfl

/-! ## Every next state of each meaning -/

theorem execInit_next {mode psc : BitVec 8} {s t : State} (h : execInit mode psc s = .next t) :
    s.Live ∧ (s.irqPending = true ∧ t = s ∨ s.irqPending = false ∧
      (invalidMode mode = true ∧ t = s.respond .invalidMode ∨
       invalidMode mode = false ∧ invalidPsc psc = true ∧ t = s.respond .invalidPrescaler ∨
       invalidMode mode = false ∧ invalidPsc psc = false ∧
         t = (s.initEffect (modeCode mode) (pscCode psc)).respond .ok)) := by
  obtain ⟨hl, hp | ⟨hp, rfl⟩⟩ := hostCommand_next h
  · exact ⟨hl, .inl hp⟩
  · refine ⟨hl, .inr ⟨hp, ?_⟩⟩
    cases hm : invalidMode mode <;> cases hs : invalidPsc psc <;> simp

theorem execStart_next {cbp : Bool} {d : Delay} {tok : Token} {s t : State}
    (h : execStart cbp d tok s = .next t) :
    s.Live ∧ (s.irqPending = true ∧ t = s ∨ s.irqPending = false ∧
      (plan s.fCpu d = none ∧ t = s.respond .invalidDelay ∨
       ∃ p, plan s.fCpu d = some p ∧
        ((s.sourceEnabled = true ∧ cbp = false) ∧ t = s.respond .missingCallback ∨
         ¬(s.sourceEnabled = true ∧ cbp = false) ∧ t = (s.startEffect p cbp d tok).respond .ok))) := by
  obtain ⟨hl, hp | ⟨hp, rfl⟩⟩ := hostCommand_next h
  · exact ⟨hl, .inl hp⟩
  · refine ⟨hl, .inr ⟨hp, ?_⟩⟩
    cases hq : plan s.fCpu d with
    | none => exact .inl ⟨rfl, rfl⟩
    | some p => exact .inr ⟨p, rfl, by cases s.sourceEnabled <;> cases cbp <;> simp⟩

theorem execStop_next {s t : State} (h : execStop s = .next t) :
    s.Live ∧ (s.irqPending = true ∧ t = s ∨ s.irqPending = false ∧ t = s.stopEffect.respond .ok) :=
  hostCommand_next h

theorem execGetStatus_next {s t : State} (h : execGetStatus s = .next t) :
    s.Live ∧ (s.irqPending = true ∧ t = s ∨ s.irqPending = false ∧
      (s.interruptPathLive = true ∧ t = s.raise .mixedPolledInterrupt ∨
       s.interruptPathLive = false ∧
        (s.tov = false ∧ t = s.respond .running ∨
         s.tov = true ∧ s.curOvf < s.maxOvf ∧ t = s.consumeFull.respond .running ∨
         s.tov = true ∧ s.curOvf = s.maxOvf ∧ t = s.loadCompensating.respond .running ∨
         s.tov = true ∧ s.maxOvf < s.curOvf ∧ t = s.emitIfPresent.stopEffect.respond .expired))) := by
  obtain ⟨hl, hp | ⟨hp, rfl⟩⟩ := hostCommand_next h
  · exact ⟨hl, .inl hp⟩
  · refine ⟨hl, .inr ⟨hp, ?_⟩⟩
    cases hi : s.interruptPathLive <;> cases ht : s.tov <;>
      rcases countOverflow_cases s with ⟨hc, he⟩ | ⟨hc, he⟩ | ⟨hc, he⟩ <;> simp [hc, he]

theorem execPlan_next {d : Delay} {s t : State} (h : execPlan d s = .next t) :
    s.Live ∧ (s.irqPending = true ∧ t = s ∨ s.irqPending = false ∧
      (plan s.fCpu d = none ∧ t = s.respond .invalidDelay ∨
       ∃ p, plan s.fCpu d = some p ∧ t = s.respondPlan p.psc p.maxOvf p.lastTicks)) := by
  obtain ⟨hl, hp | ⟨hp, rfl⟩⟩ := hostCommand_next h
  · exact ⟨hl, .inl hp⟩
  · refine ⟨hl, .inr ⟨hp, ?_⟩⟩
    cases hq : plan s.fCpu d with
    | none => exact .inl ⟨rfl, rfl⟩
    | some p => exact .inr ⟨p, rfl, rfl⟩

theorem execTick_next {s t : State} (h : execTick s = .next t) :
    s.Live ∧
      (s.clockRuns = false ∧ t = s ∨
       s.clockRuns = true ∧ s.wgm ≠ 0#2 ∧ t = s.refuse .nonNormalModeCount ∨
       s.clockRuns = true ∧ s.wgm = 0#2 ∧ s.compareLive = true ∧ t = s.refuse .compareInterruptNotModelled ∨
       s.clockRuns = true ∧ s.wgm = 0#2 ∧ s.compareLive = false ∧ t = s.count) := by
  obtain ⟨hl, hb⟩ := unlessMarked_next h
  refine ⟨hl, ?_⟩
  cases hr : s.clockRuns <;> by_cases hw : s.wgm = 0#2 <;> cases hc : s.compareLive <;> simp_all

theorem execOvfIsr_next {s t : State} (h : execOvfIsr s = .next t) :
    s.Live ∧
      (s.irqPending = false ∧ t = s ∨
       s.irqPending = true ∧
        (s.curOvf < s.maxOvf ∧ t = s.consumeFull ∨
         s.curOvf = s.maxOvf ∧ t = s.loadCompensating ∨
         s.maxOvf < s.curOvf ∧ s.cbPresent = true ∧ t = s.enterInterrupt.expireInterrupt ∨
         s.maxOvf < s.curOvf ∧ s.cbPresent = false ∧ t = s.raise .nullCallbackInInterrupt)) := by
  obtain ⟨hl, hb⟩ := unlessMarked_next h
  refine ⟨hl, ?_⟩
  cases hp : s.irqPending <;> cases hc : s.cbPresent <;>
    rcases enterInterrupt_countOverflow_cases s with ⟨hq, he⟩ | ⟨hq, he⟩ | ⟨hq, he⟩ <;>
    simp_all [State.returnFromInterrupt]

/-! ## Decoding and the schedule -/

/-- Everything the decoder can answer as a command. -/
theorem decode_instr {c : Command} {i : Instr} (h : decode c = .instr i) :
    (opField c.word = 0x01#8 ∧ c.word.extractLsb' 24 8 = 0#8 ∧ i = .init (modeField c.word) (pscField c.word)) ∨
    (opField c.word = 0x02#8 ∧ c.word.extractLsb' 9 23 = 0#23 ∧ i = startOperands c) ∨
    (opField c.word = 0x03#8 ∧ c.word.extractLsb' 8 24 = 0#24 ∧ i = .stop) ∨
    (opField c.word = 0x04#8 ∧ c.word.extractLsb' 8 24 = 0#24 ∧ i = .getStatus) ∨
    (opField c.word = 0x05#8 ∧ c.word.extractLsb' 8 24 = 0#24 ∧ i = .plan c.delay) := by
  unfold decode ifReservedZero at h
  split at h
  · split at h <;> simp_all
  · split at h
    · split at h <;> simp_all
    · split at h
      · split at h <;> simp_all
      · split at h
        · split at h <;> simp_all
        · split at h
          · split at h <;> simp_all
          · simp_all

/-- Only a command decodes; an internal event has no command word. -/
theorem decode_isCommand {c : Command} {i : Instr} (h : decode c = .instr i) : i.isCommand = true := by
  rcases decode_instr h with ⟨_, _, rfl⟩ | ⟨_, _, rfl⟩ | ⟨_, _, rfl⟩ | ⟨_, _, rfl⟩ | ⟨_, _, rfl⟩ <;> rfl

theorem illegalCommand_next {s t : State} (h : illegalCommand s = .next t) :
    s.Live ∧ (s.irqPending = true ∧ t = s ∨ s.irqPending = false ∧ t = s.respond .illegalCommand) :=
  hostCommand_next h

theorem setGieAction_next {v : Bool} {s t : State} (h : setGieAction v s = .next t) :
    s.Live ∧ (s.irqPending = true ∧ t = s ∨ s.irqPending = false ∧ t = s.setGie v) :=
  hostCommand_next h

/-- Every next state of the step: what moved, and from which state. A step runs the meaning of one instruction, or
answers an illegal word, or sets GIE, and the only fields the schedule itself writes are the model's own. -/
theorem step_next {s t : State} (h : step s = .next t) :
    s.Live ∧ ∃ ms n,
      ((∃ i, exec i { s with schedule := ms, choices := n } = .next t) ∨
       illegalCommand { s with schedule := ms, choices := n } = .next t ∨
       (∃ v, setGieAction v { s with schedule := ms, choices := n } = .next t)) := by
  obtain ⟨hl, hb⟩ := unlessMarked_next h
  refine ⟨hl, ?_⟩
  split at hb
  · unfold drainedStep at hb
    split at hb
    · split at hb
      · exact ⟨s.schedule, s.choices + 1, .inl ⟨_, hb⟩⟩
      · exact ⟨s.schedule, s.choices + 1, .inl ⟨_, hb⟩⟩
    · exact ⟨s.schedule, s.choices, .inl ⟨_, hb⟩⟩
  · exact ⟨_, s.choices, .inl ⟨_, hb⟩⟩
  · exact ⟨_, s.choices, .inl ⟨_, hb⟩⟩
  · unfold runHostMove at hb
    split at hb
    · exact ⟨s.schedule, s.choices, .inl ⟨_, hb⟩⟩
    · exact ⟨_, s.choices, .inr (.inr ⟨_, hb⟩)⟩
  · unfold runHostMove at hb
    split at hb
    · exact ⟨s.schedule, s.choices, .inl ⟨_, hb⟩⟩
    · unfold runCommand at hb
      split at hb
      · exact ⟨_, s.choices, .inl ⟨_, hb⟩⟩
      · exact ⟨_, s.choices, .inr (.inl hb)⟩

end Sys2Proof.Machine
end

