-- ==== Sys2Proof/Laws/PerInstr.lean ====
section
/-! SUPPORT. Statements about every instruction as syntax, one lemma per constructor of Instr. -/

namespace Sys2Proof

/-- The opcode of each command (30_encoding.md R71); an internal event has none. -/
def Instr.opcode : Instr → Option (BitVec 8)
  | .init _ _    => some 0x01#8
  | .start _ _ _ => some 0x02#8
  | .stop        => some 0x03#8
  | .getStatus   => some 0x04#8
  | .plan _      => some 0x05#8
  | .tick        => none
  | .ovfIsr      => none

end Sys2Proof

namespace Sys2Proof.Laws.EncodedOpcode

/-- The encoding of an instruction carries its opcode in CMD[7:0], and exists exactly for a command (R71). -/
def Statement (i : Instr) : Prop := (encode i).map (fun c => opField c.word) = i.opcode

theorem init (mode psc : BitVec 8) : Statement (.init mode psc) := by
  simp only [Statement, encode, opField, placeField, Instr.opcode, Option.map_some, Option.some.injEq]
  ext k hk
  interval_cases k <;> simp

theorem start (cbp : Bool) (delay : Delay) (cbtok : Token) : Statement (.start cbp delay cbtok) := by
  simp only [Statement, encode, Instr.opcode, Option.map_some, Option.some.injEq]
  cases cbp <;> decide

theorem stop : Statement .stop := rfl

theorem getStatus : Statement .getStatus := rfl

theorem plan (delay : Delay) : Statement (.plan delay) := rfl

theorem tick : Statement .tick := rfl

theorem ovfIsr : Statement .ovfIsr := rfl

end Sys2Proof.Laws.EncodedOpcode
end

