-- ==== Sys2Proof/Tests/Slice0.lean ====
section
/-! SUPPORT. The model's own tests: the expected results are those of spec/95_test_vectors.md, cited by section. The
theorems `witness_…` at the end show, for each statement that has hypotheses, a concrete state and operands that meet
all of them. -/

namespace Sys2Proof.Tests

open Sys2Proof Sys2Proof.Machine

/-- The reset state of an instance with F_CPU = 16 MHz, the clock of spec/95_test_vectors.md. -/
def base : State := { State.reset with fCpu := 16000000#32 }

/-- One field of the next state, none for a fault or a refusal. -/
def field {α : Type} (f : State → α) : StepResult → Option α
  | .next t    => some (f t)
  | .fault _   => none
  | .refused _ => none

/-- The code and data outputs of the last response. -/
def reply (s : State) : BitVec 8 × BitVec 3 × BitVec 64 × BitVec 8 := (s.responseOut, s.pscOut, s.maxOut, s.lastOut)

/-! ## Well-formedness and decoding -/

theorem test_wellFormed_refuses_unread_token : (Instr.start false 1000#64 7#16).wellFormed = false := by decide
theorem test_wellFormed_accepts_read_token : (Instr.start true 1000#64 7#16).wellFormed = true := by decide
theorem test_wellFormed_accepts_invalid_codes : (Instr.init 255#8 255#8).wellFormed = true := by decide

/-- 30_encoding.md R82: `INIT PHASECORRECT, CLK1024` is 0x00050101. -/
theorem test_decode_init : decodeTableWord 32 0x00050101 = some (.init 1#8 5#8) := by decide
/-- 30_encoding.md R82: `INIT #4, STOP` is 0x00000401. -/
theorem test_decode_init_invalid_mode : decodeTableWord 32 0x00000401 = some (.init 4#8 0#8) := by decide
/-- 30_encoding.md R82: `START 1000, 7` is 0x00000102 with DELAY = 1000 and CBTOK = 7. -/
theorem test_decode_start : decode ⟨0x00000102#32, 1000#64, 7#16⟩ = .instr (.start true 1000#64 7#16) := by decide
/-- R73: the token bus is ignored when CBP = 0. -/
theorem test_decode_start_ignores_token :
    decode ⟨0x00000002#32, 1000#64, 7#16⟩ = .instr (.start false 1000#64 0#16) := by decide
theorem test_decode_stop : decodeTableWord 32 0x00000003 = some .stop := by decide
theorem test_decode_getStatus : decodeTableWord 32 0x00000004 = some .getStatus := by decide
theorem test_decode_plan : decode ⟨0x00000005#32, 8193#64, 0#16⟩ = .instr (.plan 8193#64) := by decide
/-- The operand buses above the command word: DELAY in bits 95..32, CBTOK in bits 111..96. -/
theorem test_decode_buses : decodeTableWord 112 0x0007000000000000000300000102 = some (.start true 3#64 7#16) := by decide
/-- 95_test_vectors.md 2.8: reserved bits and unassigned opcodes. -/
theorem test_decode_illegal :
    decodeTableWord 32 0x80000001 = none ∧ decodeTableWord 32 0x00000302 = none ∧
    decodeTableWord 32 0x00000103 = none ∧ decodeTableWord 32 0x00010004 = none ∧
    decodeTableWord 32 0x00000000 = none ∧ decodeTableWord 32 0x000000FF = none := by decide
/-- The internal events have no word (42_overflow_counter.md R141, R144). -/
theorem test_encode_events : encode .tick = none ∧ encode .ovfIsr = none := by decide
theorem test_encode_init : encode (.init 4#8 9#8) = some ⟨0x00090401#32, 0#64, 0#16⟩ := by decide
theorem test_encode_start : encode (.start true 1#64 7#16) = some ⟨0x00000102#32, 1#64, 7#16⟩ := by decide

/-! ## One step of each instruction -/

/-- 95_test_vectors.md 2.2: `INIT FASTPWM, CLK1` from reset. -/
theorem test_init :
    field (fun t => (t.wgm, t.cs, t.divisor, t.responseOut)) (exec (.init 3#8 1#8) base) =
      some (3#2, 1#3, 1#11, 0x00#8) := by decide
/-- 95_test_vectors.md 2.2: the mode is checked first. -/
theorem test_init_mode_first :
    field (fun t => (t.wgm, t.cs, t.responseOut)) (exec (.init 255#8 255#8) base) = some (0#2, 0#3, 0x10#8) := by decide
/-- 95_test_vectors.md 2.3: `START 1000` from reset. -/
theorem test_start :
    field (fun t => ((t.cs, t.divisor, t.toie, t.tcnt), (t.maxOvf, t.lastTicks), t.planPsc, t.running, t.cbPresent))
      (exec (.start false 1000#64 0#16) base) =
      some ((3#3, 64#11, true, 6#8), (0#64, 250#8), 3#3, true, false) := by decide
/-- 95_test_vectors.md 2.3: `START 1000` with OCIE = 1 at launch. -/
theorem test_start_missing_callback :
    field (fun t => (t.responseOut, t.toie)) (exec (.start false 1000#64 0#16) { base with ocie := true }) =
      some (0x13#8, false) := by decide
/-- 95_test_vectors.md 2.4: STOP after `START 128, 1` and `TICK 300`. -/
theorem test_stop :
    field (fun t => ((t.toie, t.cs, t.tov, t.maxOvf), (t.running, t.tcnt), t.cbToken, t.events))
      (exec .stop { base with
        toie := true, cs := 2#3, divisor := 8#11, tov := true, tcnt := 44#8, maxOvf := 1#64, running := true
        cbPresent := true, cbToken := 1#16, planDelay := 128#64, planPsc := 2#3 }) =
      some ((false, 0#3, false, 0#64), (false, 44#8), 1#16, []) := by decide
/-- 95_test_vectors.md 2.5: the compensating branch with MAX_OVF = 61, LAST_TICKS = 9. -/
theorem test_getStatus_compensating :
    field (fun t => (t.responseOut, t.tov, t.curOvf, t.tcnt)) (exec .getStatus { base with
        tov := true, curOvf := 61#64, maxOvf := 61#64, lastTicks := 9#8 }) =
      some (0x01#8, false, 62#64, 247#8) := by decide
/-- 95_test_vectors.md 2.5: the expiry with a callback stored. -/
theorem test_getStatus_expiry :
    field (fun t => ((t.responseOut, t.events), (t.toie, t.cs), t.curOvf, t.maxOvf, t.cbPresent)) (exec .getStatus { base with
        toie := true, cs := 5#3, tov := true, curOvf := 62#64, maxOvf := 61#64, cbPresent := true, cbToken := 5#16 }) =
      some ((0x02#8, [5#16]), (false, 0#3), 0#64, 0#64, true) := by decide
/-- 95_test_vectors.md 2.1: `PLAN 1000000`. -/
theorem test_plan : field reply (exec (.plan 1000000#64) base) = some (0x00#8, 5#3, 61#64, 9#8) := by decide
/-- 95_test_vectors.md 2.1: the largest delay, where a 64-bit product would wrap. -/
theorem test_plan_exact_product :
    field reply (exec (.plan 0xFFFFFFFFFFFFFFFF#64) base) =
      some (0x00#8, 5#3, 1125899906842623#64, 255#8) := by decide
/-- 95_test_vectors.md 2.6: the wrap of an external-clock count. -/
theorem test_tick_wrap :
    field (fun t => (t.tcnt, t.tov)) (exec .tick { base with cs := 7#3, tcnt := 255#8 }) = some (0#8, true) := by decide
/-- 95_test_vectors.md 2.6: a TICK in mode PhaseCorrect is refused, REFUSED = 1. -/
theorem test_tick_refused :
    field (fun t => (t.tcnt, t.refusedBit, t.refusedMark)) (exec .tick { base with cs := 5#3, wgm := 1#2 }) =
      some (0#8, true, some .nonNormalModeCount) := by decide
/-- 95_test_vectors.md 2.7: the expiring edge, no Stop effect. -/
theorem test_ovfIsr_expiry :
    field (fun t => ((t.tov, t.curOvf), t.events, t.toie, t.cs, t.lastTicks)) (exec .ovfIsr { base with
        tov := true, toie := true, gie := true, cs := 3#3, curOvf := 1#64, lastTicks := 75#8, cbPresent := true
        cbToken := 7#16 }) =
      some ((false, 0#64), [7#16], true, 3#3, 75#8) := by decide
/-- 95_test_vectors.md 2.7: the expiring edge with an empty slot: FAULT = 1 and TOV stays 1. -/
theorem test_ovfIsr_fault :
    field (fun t => (t.faultBit, t.tov, t.curOvf)) (exec .ovfIsr { base with
        tov := true, toie := true, gie := true, curOvf := 1#64 }) =
      some (true, true, 1#64) := by decide

/-! ## The step -/

/-- The placed word runs as the first command after reset. -/
theorem test_step_from_reset :
    field (fun t => (t.cs, t.schedule)) (step (State.reset.withFetchWord 32 0x00030001)) = some (3#3, []) := by decide
/-- 95_test_vectors.md 2.2: word 0x01000001 is illegal. -/
theorem test_step_illegal :
    field (fun t => (t.responseOut, t.cs)) (step (base.withFetchWord 32 0x01000001)) = some (0x1F#8, 0#3) := by decide
/-- 60_exceptions.md R187: a pending interrupt runs first and the command stays next. -/
theorem test_step_held :
    field (fun t => (t.tov, t.curOvf, t.responses.length, t.schedule.length)) (step ({ base with
        tov := true, toie := true, gie := true, maxOvf := 2#64 }.withFetchWord 32 3)) =
      some (false, 1#64, 0, 1) := by decide
/-- 30_encoding.md R83: `RESET` only as the first line. -/
theorem test_assemble_reset : assemble [.stop, .reset] = none := by decide
/-- 20_memory.md R52: little-endian bytes. -/
theorem test_bytes :
    { base with divisor := 0x402#11 }.readBytes .divisor = [0x02#8, 0x04#8] := by decide

/-! ## Witnesses: the hypotheses of each statement are met -/

/-- A state in the middle of a countdown on the polled path: overflow 3 of 61 is pending. -/
def polling : State := { base with
  cs := 5#3, divisor := 1024#11, toie := true, tov := true, curOvf := 3#64, maxOvf := 61#64, lastTicks := 9#8
  running := true, planPsc := 5#3, planDelay := 1000000#64, cbPresent := true, cbToken := 5#16 }

/-- The same state on the interrupt path. -/
def interrupted : State := { polling with gie := true }

theorem witness_DecodeInvertsEncode :
    (Instr.start true 1#64 7#16).isCommand = true ∧ (Instr.start true 1#64 7#16).wellFormed = true ∧
    (Instr.init 255#8 255#8).isCommand = true ∧ Instr.tick.isCommand = false := by decide
theorem witness_DecodedWordIsTheEncodedWord :
    decode ⟨0x00FF0301#32, 0#64, 0#16⟩ = .instr (.init 3#8 255#8) := by decide
theorem witness_DecodeFollowsMatchAndMask :
    0x00FFFF01#32 &&& 0xFF0000FF#32 = 0x00000001#32 ∧ 0x00000102#32 &&& 0xFFFFFEFF#32 = 0x00000002#32 ∧
    (0x01000001#32 &&& 0xFF0000FF#32 ≠ 0x00000001#32 ∧ 0x01000001#32 &&& 0xFFFFFEFF#32 ≠ 0x00000002#32 ∧
      0x01000001#32 ≠ 3#32 ∧ 0x01000001#32 ≠ 4#32 ∧ 0x01000001#32 ≠ 5#32) := by decide
theorem witness_IllegalWordRespondsAndWritesNothing :
    (base.withFetchWord 32 0x00000103).Ready ∧
    (base.withFetchWord 32 0x00000103).schedule = [.command ⟨0x00000103#32, 0#64, 0#16⟩] ∧
    ¬ ((0x00000103#32).extractLsb' 0 8 = 0x01#8 ∧ (0x00000103#32).extractLsb' 24 8 = 0#8) ∧
    ¬ ((0x00000103#32).extractLsb' 0 8 = 0x02#8 ∧ (0x00000103#32).extractLsb' 9 23 = 0#23) ∧
    ¬ ((0x00000103#32).extractLsb' 0 8 = 0x03#8 ∧ (0x00000103#32).extractLsb' 8 24 = 0#24) ∧
    ¬ ((0x00000103#32).extractLsb' 0 8 = 0x04#8 ∧ (0x00000103#32).extractLsb' 8 24 = 0#24) ∧
    ¬ ((0x00000103#32).extractLsb' 0 8 = 0x05#8 ∧ (0x00000103#32).extractLsb' 8 24 = 0#24) := by decide
theorem witness_StepRunsTheDecodedCommand :
    (base.withFetchWord 32 3).Ready ∧ (base.withFetchWord 32 3).schedule = [.command ⟨3#32, 0#64, 0#16⟩] ∧
    decode ⟨3#32, 0#64, 0#16⟩ = .instr .stop := by decide
theorem witness_StepRunsTheScheduledEvent :
    (polling.withSchedule [.tick]).Live ∧ (polling.withSchedule [.tick]).schedule = [.tick] ∧
    (interrupted.withSchedule [.isr]).Live ∧ (interrupted.withSchedule [.isr]).schedule = [.isr] := by decide
theorem witness_SetGieWritesOnlyGie :
    (polling.withSchedule [.setGie true]).Ready ∧ (polling.withSchedule [.setGie true]).schedule = [.setGie true] := by
  decide
theorem witness_PendingInterruptHoldsTheHost :
    (interrupted.withFetchWord 32 3).Live ∧ (interrupted.withFetchWord 32 3).irqPending = true ∧
    (interrupted.withFetchWord 32 3).schedule = [.command ⟨3#32, 0#64, 0#16⟩] ∧
    (interrupted.withSchedule [.setGie false]).schedule = [.setGie false] ∧
    (interrupted.withSchedule [.tick]).schedule = [.tick] := by decide
theorem witness_DrainedScheduleRunsTheOtherAgents :
    polling.Live ∧ polling.schedule = [] ∧ polling.irqPending = false ∧
    interrupted.Live ∧ interrupted.schedule = [] ∧ interrupted.irqPending = true ∧ interrupted.cs ≠ 0#3 ∧
    { interrupted with cs := 0#3 }.irqPending = true := by decide
theorem witness_TicksGoOnWithoutTheHost :
    polling.Counting ∧ polling.gie = false ∧ polling.schedule = [] := by decide
theorem witness_MarkedStateHasNoFurtherStep :
    field (·.faultMark) (exec .getStatus { interrupted with tov := false }) = some (some .mixedPolledInterrupt) ∧
    field (·.refusedMark) (exec .tick { polling with wgm := 3#2 }) = some (some .nonNormalModeCount) ∧
    { base with faultMark := some .nullCallbackInInterrupt }.faultMark = some .nullCallbackInInterrupt ∧
    { base with refusedMark := some .nonNormalModeCount }.faultMark = none := by decide
theorem witness_InvHoldsAtResetAndLaunch : polling.Launch := by decide
theorem witness_InvKeptByEveryStep :
    polling.Inv ∧ ∃ t, step (polling.withFetchWord 32 4) = .next t := ⟨by decide, _, rfl⟩
theorem witness_ArmedInvKeptByEveryStep :
    polling.ArmedInv ∧ polling.running = true ∧ ∃ t, step (polling.withFetchWord 32 4) = .next t :=
  ⟨by decide, by decide, _, rfl⟩
theorem witness_OutputsOnlyGrow : ∃ t, step (polling.withFetchWord 32 4) = .next t := ⟨_, rfl⟩
theorem witness_EveryCommandRespondsOnce :
    Instr.getStatus.isCommand = true ∧ polling.Ready ∧ { interrupted with tov := false }.Ready := by decide
theorem witness_ErrorResponseWritesNothing :
    field (·.responses) (exec (.plan 0#64) base) = some (base.responses ++ [⟨.invalidDelay, 0#3, 0#64, 0#8⟩]) ∧
    RespCode.invalidDelay.isError = true ∧
    field (·.responses) (illegalCommand base) = some [⟨.illegalCommand, 0#3, 0#64, 0#8⟩] := by decide
theorem witness_CallbackEventsOnlyAtExpiry :
    field (·.events) (exec .getStatus { polling with curOvf := 62#64 }) = some [5#16] ∧
    field (·.events) (exec .ovfIsr { interrupted with curOvf := 62#64 }) = some [5#16] ∧
    field (·.events) (illegalCommand base) = some [] ∧ field (·.events) (setGieAction true base) = some [] := by decide
theorem witness_ResponseCodesAndTheirCommands :
    field (·.responses) (exec .getStatus base) = some (base.responses ++ [⟨.running, 0#3, 0#64, 0#8⟩]) ∧
    field (·.responses) (illegalCommand base) = some (base.responses ++ [⟨.illegalCommand, 0#3, 0#64, 0#8⟩]) := by decide
theorem witness_DataOutputsHoldThePlanOrZero :
    field (·.responses) (exec (.plan 8193#64) base) = some [⟨.ok, 5#3, 0#64, 128#8⟩] ∧ base.responses = [] ∧
    field (·.responses) (illegalCommand base) = some [⟨.illegalCommand, 0#3, 0#64, 0#8⟩] := by decide
theorem witness_WriteMatrixFrame :
    (∃ t, exec (.init 0#8 3#8) base = .next t) ∧ (∃ t, exec .getStatus polling = .next t) ∧
    (∃ t, exec .ovfIsr interrupted = .next t) := ⟨⟨_, rfl⟩, ⟨_, rfl⟩, ⟨_, rfl⟩⟩
theorem witness_InitWritesModeAndClock : base.Ready ∧ (3#8).toNat ≤ 3 ∧ (7#8).toNat ≤ 7 := by decide
theorem witness_InitRejectsUnrecognisedCodes :
    base.Ready ∧ 3 < (4#8).toNat ∧ 3 < (255#8).toNat ∧ ((3#8).toNat ≤ 3 ∧ 7 < (8#8).toNat) := by decide
theorem witness_PrescalerFollowsTheThresholds :
    (plan 16000000#32 256#64).isSome = true ∧ (256#64).toNat ≤ 256 ∧
    (plan 16000000#32 257#64).isSome = true ∧ 256 < (257#64).toNat ∧ (2048#64).toNat ≤ 2048 ∧
    (plan 16000000#32 2049#64).isSome = true ∧ 2048 < (2049#64).toNat ∧ (8192#64).toNat ≤ 8192 ∧
    (plan 16000000#32 8193#64).isSome = true ∧ 8192 < (8193#64).toNat := by decide
theorem witness_PlanCountsAreExactQuotients :
    plan 4294967295#32 0xFFFFFFFFFFFFFFFF#64 = some ⟨5#3, 302231382846063255#64, 187#8⟩ ∧
    (if (0xFFFFFFFFFFFFFFFF#64).toNat ≤ 256 then (1024 : Nat) = 8
      else if (0xFFFFFFFFFFFFFFFF#64).toNat ≤ 2048 then (1024 : Nat) = 64
      else if (0xFFFFFFFFFFFFFFFF#64).toNat ≤ 8192 then (1024 : Nat) = 256 else (1024 : Nat) = 1024) := by decide
theorem witness_PlanAccountsForEveryTick :
    plan 16000000#32 2047#64 = some ⟨3#3, 1#64, 255#8⟩ := by decide
theorem witness_PlanShowsThePlan :
    base.Ready ∧ 2048#64 ≠ 0#64 ∧
    (if (2048#64).toNat ≤ 256 then 3#3 = 2#3 ∧ (64 : Nat) = 8 else if (2048#64).toNat ≤ 2048 then 3#3 = 3#3 ∧ (64 : Nat) = 64
      else if (2048#64).toNat ≤ 8192 then 3#3 = 4#3 ∧ (64 : Nat) = 256 else 3#3 = 5#3 ∧ (64 : Nat) = 1024) := by decide
theorem witness_ZeroDelayIsRejected : polling.Ready := by decide
theorem witness_MissingCallbackIsRejected :
    polling.Ready ∧ 1#64 ≠ 0#64 ∧ (polling.toie = true ∨ polling.ocie = true) ∧
    { base with ocie := true }.Ready ∧ { base with ocie := true }.ocie = true := by decide
/-- With a callback while a source is enabled, and without one while none is; M = 0, and M = 1 with L = 0. -/
theorem witness_StartArmsTheCountdown :
    polling.Ready ∧ base.Ready ∧ (base.toie = false ∧ base.ocie = false) ∧ 300#64 ≠ 0#64 ∧
    (if (300#64).toNat ≤ 256 then 3#3 = 2#3 ∧ (64 : Nat) = 8 else if (300#64).toNat ≤ 2048 then 3#3 = 3#3 ∧ (64 : Nat) = 64
      else if (300#64).toNat ≤ 8192 then 3#3 = 4#3 ∧ (64 : Nat) = 256 else 3#3 = 5#3 ∧ (64 : Nat) = 1024) ∧
    0 = (300#64).toNat * (base.fCpu.toNat / 64) / 256000000 ∧
    75 = ((300#64).toNat * (base.fCpu.toNat / 64) / 1000000 - 0 * 256) % 256 ∧
    1 = (1024#64).toNat * (base.fCpu.toNat / 64) / 256000000 ∧
    0 = ((1024#64).toNat * (base.fCpu.toNat / 64) / 1000000 - 1 * 256) % 256 := by decide
theorem witness_StartWithoutCallbackNeedsAStop :
    base.Ready ∧ 1000#64 ≠ 0#64 ∧ 500#64 ≠ 0#64 ∧ (base.toie = false ∧ base.ocie = false) := by decide
theorem witness_StopDisarmsTheTimer : polling.Ready := by decide
theorem witness_StopIsIdempotent : polling.Ready ∧ ∃ t, exec .stop polling = .next t := ⟨by decide, _, rfl⟩
/-- One state for each branch of GETSTATUS, at the boundary values of CUR_OVF. -/
theorem witness_GetStatusBranches :
    { interrupted with tov := false }.Ready ∧ base.Ready ∧ { polling with curOvf := 60#64 }.Ready ∧
    { polling with curOvf := 61#64 }.Ready ∧ { polling with curOvf := 62#64 }.Ready := by decide
theorem witness_MixingThePathsFaults :
    { interrupted with tov := false }.Ready ∧ { interrupted with tov := false }.gie = true ∧
    { interrupted with tov := false }.toie = true := by decide
theorem witness_PolledCountdownExpiresOnce :
    base.Ready ∧ base.gie = false ∧ 1000#64 ≠ 0#64 ∧ (base.toie = false ∧ base.ocie = false) ∧
    field (·.maxOvf) (exec (.start false 1000#64 0#16) base) = some 0#64 ∧
    [0#8, 6#8].length = (0#64).toNat + 2 ∧ [0#8].length ≤ (0#64).toNat + 1 := by decide
/-- One state for each branch of TICK: a refused mode, a live compare interrupt, the wrap, and the count before it. -/
theorem witness_TickBranches :
    polling.Live ∧ polling.cs ≠ 0#3 ∧ { polling with wgm := 1#2 }.Live ∧
    { interrupted with ocie := true }.Live ∧ { polling with tcnt := 255#8 }.Live ∧
    { polling with tcnt := 254#8 }.Live := by decide
theorem witness_TickWaitsWhileTheClockIsStopped : base.Live ∧ base.cs = 0#3 := by decide
theorem witness_UndescribedCountingIsRefused :
    polling.Live ∧ polling.cs ≠ 0#3 ∧ { polling with wgm := 3#2 }.wgm ≠ 0#2 ∧
    { interrupted with ocie := true }.wgm = 0#2 ∧ { interrupted with ocie := true }.ocie = true ∧
    { interrupted with ocie := true }.gie = true := by decide
theorem witness_ReloadOverflowsAfterItsTicks :
    { base with cs := 3#3, tcnt := reload 250#8 }.Counting ∧ reload 250#8 = 6#8 ∧ reload 0#8 = 0#8 ∧
    reload 1#8 = 255#8 ∧ base.tov = false ∧ (249 < if 250#8 = 0#8 then 256 else (250#8).toNat) ∧
    (255 < if 0#8 = 0#8 then 256 else (0#8).toNat) := by decide
theorem witness_SecondOverflowIsLost : polling.Counting ∧ polling.tov = true := by decide
/-- One state for each branch of OVF_ISR, at the boundary values of CUR_OVF. -/
theorem witness_OvfIsrBranches :
    interrupted.Live ∧ { interrupted with curOvf := 60#64 }.irqPending = true ∧
    { interrupted with curOvf := 61#64 }.irqPending = true ∧ { interrupted with curOvf := 62#64 }.irqPending = true ∧
    { interrupted with curOvf := 62#64, cbPresent := false }.irqPending = true := by decide
theorem witness_OvfIsrWaitsForAPendingInterrupt : polling.Live ∧ polling.irqPending = false := by decide
theorem witness_EmptySlotFaultsAtTheExpiringEdge :
    { interrupted with curOvf := 62#64, cbPresent := false }.Live ∧
    { interrupted with curOvf := 62#64, cbPresent := false }.irqPending = true ∧
    (61#64).toNat < (62#64).toNat ∧ { interrupted with curOvf := 62#64, cbPresent := false }.cbPresent = false := by decide
theorem witness_BothPathsCountAlike :
    polling.Live ∧ polling.tov = true ∧ polling.toie = true ∧ polling.curOvf.toNat ≤ polling.maxOvf.toNat ∧
    { polling with curOvf := 61#64 }.curOvf.toNat ≤ polling.maxOvf.toNat := by decide
/-- The interrupt path after `START 300, 7`, with MAX_OVF = 0. -/
def periodic : State := { base with
  cs := 3#3, divisor := 64#11, toie := true, gie := true, tcnt := 181#8, lastTicks := 75#8, running := true
  cbPresent := true, cbToken := 7#16 }
theorem witness_InterruptCountdownRepeats :
    periodic.Live ∧ periodic.gie = true ∧ periodic.toie = true ∧ periodic.tov = false ∧ periodic.cbPresent = true ∧
    periodic.curOvf = 0#64 ∧ periodic.maxOvf.toNat < 2 ^ 59 ∧ [0#8].length ≤ periodic.maxOvf.toNat + 1 ∧
    [0#8, 0#8, 0#8, 0#8].length = 2 * (periodic.maxOvf.toNat + 2) := by decide
/-- The first period 150 and the later period 331 of program P2 (spec/95_test_vectors.md section 3). -/
theorem witness_CallbackPeriodInTicks :
    periodic.Counting ∧ periodic.gie = true ∧ periodic.toie = true ∧ periodic.tov = false ∧
    periodic.cbPresent = true ∧ periodic.curOvf = 0#64 ∧ periodic.maxOvf.toNat < 2 ^ 59 ∧
    (periodic.maxOvf = 0#64 ∧ periodic.tcnt = reload periodic.lastTicks ∧
      150 = 2 * partialPeriod periodic.lastTicks) ∧
    ({ periodic with tcnt := 0#8 }.tcnt = 0#8 ∧
      331 = (periodic.maxOvf.toNat + 1) * 256 + partialPeriod periodic.lastTicks) := by decide
theorem witness_DerivedStateTransitions :
    polling.Inv ∧ polling.irqPending = false ∧ polling.phase = some .armed ∧
    { polling with curOvf := 61#64 }.phase = some .armed ∧ { polling with curOvf := 62#64 }.phase = some .compensating ∧
    { interrupted with curOvf := 62#64 }.Inv ∧
    field (fun t => decide t.Live) (exec .getStatus { polling with curOvf := 62#64 }) = some true ∧
    field (fun t => decide t.Live) (exec .ovfIsr { interrupted with curOvf := 62#64 }) = some true := by decide
/-- A stopped timer with turns left over, and the refusal of `INIT PHASECORRECT, CLK1024` with an eager `TICK 1`, whose
OVF_ISR turn is left over, have ended (R211); a state with a host move left has not. -/
theorem witness_EndedRunChangesNothing :
    { base with schedule := [.isr, .tick] }.EndedWell ∧
    (∃ s, State.ofProgram [.init .phaseCorrect .clk1024, .tick 1 true] = some s ∧
      ∃ t, Host.Core.run Sys2Proof.core 2 s = .next t ∧ t.schedule = [.isr] ∧ t.refusedBit = true ∧
        t.Ended ∧ ¬ t.Live) ∧
    ¬ { base with schedule := [.tick, .setGie true] }.Ended :=
  ⟨by decide, ⟨_, rfl, _, rfl, rfl, rfl, by decide, by decide⟩, by decide⟩

/-- R205's condition is met on the polled path (GIE = 0) and, with GIE = 1, after a STOP (TOIE = 0). -/
theorem witness_HostReadsWholeRegisters :
    (polling.gie = false ∨ polling.toie = false) ∧ polling.readRegister .curOvf = 3#64 ∧
    { base with gie := true }.toie = false := ⟨by decide, rfl, rfl⟩

end Sys2Proof.Tests
end

section
/-! SUPPORT. The schedule's own moves, and what every step leaves of F_CPU and of the outputs already given
(statements of 00_scope.md). -/

namespace Sys2Proof.Machine

/-! ## Turns of the counter clock and of the interrupt context -/

theorem step_of_tick_turn {s : State} {rest : List Move} (hl : s.Live) (h : s.schedule = .tick :: rest) :
    step s = exec .tick (s.withSchedule rest) := by
  unfold step takeStep
  rw [unlessMarked_of_live hl, h]

theorem step_of_isr_turn {s : State} {rest : List Move} (hl : s.Live) (h : s.schedule = .isr :: rest) :
    step s = exec .ovfIsr (s.withSchedule rest) := by
  unfold step takeStep
  rw [unlessMarked_of_live hl, h]

/-! ## The outputs only grow -/

/-- From `s` to `t` F_CPU is kept (R7), and the responses and the events are those of `s` with at most one appended to
each (R38, R162). It names the conclusion of `Obligations.OutputsOnlyGrow`. -/
def State.OutputsGrow (s t : State) : Prop :=
  t.fCpu = s.fCpu ∧
  (∃ rs, t.responses = s.responses ++ rs ∧ rs.length ≤ 1) ∧
  (∃ es, t.events = s.events ++ es ∧ es.length ≤ 1)

/-- A step that gives no output. -/
theorem outputsGrow_of_silent {s t : State} (hf : t.fCpu = s.fCpu) (hr : t.responses = s.responses)
    (he : t.events = s.events) : s.OutputsGrow t :=
  ⟨hf, ⟨[], by simp [hr]⟩, ⟨[], by simp [he]⟩⟩

/-- A step that gives one response and no event. -/
theorem outputsGrow_of_response {s t : State} {r : Response} (hf : t.fCpu = s.fCpu)
    (hr : t.responses = s.responses ++ [r]) (he : t.events = s.events) : s.OutputsGrow t :=
  ⟨hf, ⟨[r], by simp [hr]⟩, ⟨[], by simp [he]⟩⟩

theorem outputsGrow_refl (s : State) : s.OutputsGrow s := outputsGrow_of_silent rfl rfl rfl

theorem outputsGrow_respond (s : State) (code : RespCode) : s.OutputsGrow (s.respond code) :=
  outputsGrow_of_response rfl rfl rfl

/-- The expiring edge of the handler gives one event and no response (R144). -/
theorem outputsGrow_expireInterrupt (s : State) : s.OutputsGrow s.enterInterrupt.expireInterrupt :=
  ⟨rfl, ⟨[], by simp⟩, ⟨[s.cbToken], by simp⟩⟩

/-- The polled expiry gives one response, and one event exactly when the callback slot is full (R117). -/
theorem outputsGrow_polledExpiry (s : State) : s.OutputsGrow (s.emitIfPresent.stopEffect.respond .expired) := by
  cases hc : s.cbPresent with
  | false =>
    rw [emitIfPresent_empty hc]
    exact outputsGrow_of_response rfl rfl rfl
  | true =>
    rw [emitIfPresent_full hc]
    exact ⟨rfl, ⟨[⟨.expired, 0#3, 0#64, 0#8⟩], by simp⟩, ⟨[s.cbToken], by simp⟩⟩

/-- The meaning of every instruction. -/
theorem exec_outputsGrow {i : Instr} {s t : State} (h : exec i s = .next t) : s.OutputsGrow t := by
  cases i with
  | init mode psc =>
    obtain ⟨-, ⟨-, rfl⟩ | ⟨-, ⟨-, rfl⟩ | ⟨-, -, rfl⟩ | ⟨-, -, rfl⟩⟩⟩ := execInit_next h
    · exact outputsGrow_refl _
    · exact outputsGrow_respond _ _
    · exact outputsGrow_respond _ _
    · exact outputsGrow_of_response rfl rfl rfl
  | start cbp delay cbtok =>
    obtain ⟨-, ⟨-, rfl⟩ | ⟨-, ⟨-, rfl⟩ | ⟨p, -, ⟨-, -, rfl⟩ | ⟨-, rfl⟩⟩⟩⟩ := execStart_next h
    · exact outputsGrow_refl _
    · exact outputsGrow_respond _ _
    · exact outputsGrow_respond _ _
    · exact outputsGrow_of_response rfl rfl rfl
  | stop =>
    obtain ⟨-, ⟨-, rfl⟩ | ⟨-, rfl⟩⟩ := execStop_next h
    · exact outputsGrow_refl _
    · exact outputsGrow_of_response rfl rfl rfl
  | getStatus =>
    obtain ⟨-, ⟨-, rfl⟩ | ⟨-, ⟨-, rfl⟩ | ⟨-, ⟨-, rfl⟩ | ⟨-, -, rfl⟩ | ⟨-, -, rfl⟩ | ⟨-, -, rfl⟩⟩⟩⟩ :=
      execGetStatus_next h
    · exact outputsGrow_refl _
    · exact outputsGrow_of_silent rfl rfl rfl
    · exact outputsGrow_respond _ _
    · exact outputsGrow_of_response rfl rfl rfl
    · exact outputsGrow_of_response rfl rfl rfl
    · exact outputsGrow_polledExpiry _
  | plan delay =>
    obtain ⟨-, ⟨-, rfl⟩ | ⟨-, ⟨-, rfl⟩ | ⟨p, -, rfl⟩⟩⟩ := execPlan_next h
    · exact outputsGrow_refl _
    · exact outputsGrow_respond _ _
    · exact outputsGrow_of_response rfl rfl rfl
  | tick =>
    obtain ⟨-, ⟨-, rfl⟩ | ⟨-, -, rfl⟩ | ⟨-, -, -, rfl⟩ | ⟨-, -, -, rfl⟩⟩ := execTick_next h
    · exact outputsGrow_refl _
    · exact outputsGrow_of_silent rfl rfl rfl
    · exact outputsGrow_of_silent rfl rfl rfl
    · exact outputsGrow_of_silent rfl rfl rfl
  | ovfIsr =>
    obtain ⟨-, ⟨-, rfl⟩ | ⟨-, ⟨-, rfl⟩ | ⟨-, rfl⟩ | ⟨-, -, rfl⟩ | ⟨-, -, rfl⟩⟩⟩ := execOvfIsr_next h
    · exact outputsGrow_refl _
    · exact outputsGrow_of_silent rfl rfl rfl
    · exact outputsGrow_of_silent rfl rfl rfl
    · exact outputsGrow_expireInterrupt _
    · exact outputsGrow_of_silent rfl rfl rfl

theorem illegalCommand_outputsGrow {s t : State} (h : illegalCommand s = .next t) : s.OutputsGrow t := by
  obtain ⟨-, ⟨-, rfl⟩ | ⟨-, rfl⟩⟩ := illegalCommand_next h
  · exact outputsGrow_refl _
  · exact outputsGrow_respond _ _

theorem setGieAction_outputsGrow {v : Bool} {s t : State} (h : setGieAction v s = .next t) : s.OutputsGrow t := by
  obtain ⟨-, ⟨-, rfl⟩ | ⟨-, rfl⟩⟩ := setGieAction_next h
  · exact outputsGrow_refl _
  · exact outputsGrow_of_silent rfl rfl rfl

/-- Making a move writes only the schedule and the choice counter, so what is appended since the move was made is what
is appended since the step began. -/
theorem outputsGrow_of_moved {s t : State} {ms : List Move} {n : Nat}
    (h : State.OutputsGrow { s with schedule := ms, choices := n } t) : s.OutputsGrow t := h

theorem step_outputsGrow {s t : State} (h : step s = .next t) : s.OutputsGrow t := by
  obtain ⟨-, ms, n, ⟨i, hi⟩ | hillegal | ⟨v, hgie⟩⟩ := step_next h
  · exact outputsGrow_of_moved (exec_outputsGrow hi)
  · exact outputsGrow_of_moved (illegalCommand_outputsGrow hillegal)
  · exact outputsGrow_of_moved (setGieAction_outputsGrow hgie)

/-! ## The statements -/

/-- Settles O8: a turn of the clock or of the interrupt context is no move of the host, so it is not held. -/
theorem stepRunsTheScheduledEvent : Obligations.StepRunsTheScheduledEvent :=
  fun _ _ hl => ⟨step_of_tick_turn hl, step_of_isr_turn hl⟩

/-- Settles O21, from what each agent's move can append. -/
theorem outputsOnlyGrow : Obligations.OutputsOnlyGrow := fun _ _ h => step_outputsGrow h

end Sys2Proof.Machine
end

section
/-! SUPPORT. The registers of the block under every step: what a step can write, the two register invariants, the
write matrix, and the register view (statements of 10_state.md). -/

namespace Sys2Proof.Machine

/-! ## The plans the calculator gives -/

/-- Only a non-zero delay has a plan, and then it is the calculator's (R90, R91). -/
theorem eq_of_plan_eq_some {f : BitVec 32} {d : Delay} {p : Plan} (h : plan f d = some p) :
    p = ⟨selectPsc d.toNat, BitVec.ofNat 64 (planMax f d.toNat), BitVec.ofNat 8 (planLast f d.toNat)⟩ := by
  have hd : d ≠ 0#64 := by
    rintro rfl
    simp [plan_zero] at h
  simpa [plan_of_ne hd, eq_comm] using h

/-- The exact product is greatest for the longest delay, which runs at the divisor 1024: a delay of the other three
divisors is at most 8192 microseconds (R92, R94). -/
theorem planProduct_le (f : BitVec 32) {d : Nat} (hd : d < 2 ^ 64) :
    planProduct f d ≤ (2 ^ 64 - 1) * 4194303 := by
  have hf : f.toNat < 2 ^ 32 := f.isLt
  have hdiv := selectPsc_divisor d
  unfold planProduct tickFreq
  rw [hdiv]
  by_cases hlong : d ≤ 8192
  · calc d * (f.toNat / _) ≤ 8192 * f.toNat := Nat.mul_le_mul hlong (Nat.div_le_self _ _)
      _ ≤ (2 ^ 64 - 1) * 4194303 := by omega
  · have h256 : ¬ d ≤ 256 := by omega
    have h2048 : ¬ d ≤ 2048 := by omega
    simp only [h256, h2048, hlong, if_false]
    exact Nat.mul_le_mul (by omega) (by omega)

/-- The bound of R96 on `max_overflow_count`. -/
theorem planMax_le (f : BitVec 32) {d : Nat} (hd : d < 2 ^ 64) : planMax f d ≤ 302231382846063255 := by
  have hprod := planProduct_le f hd
  unfold planMax Config.ovfTicks Config.usPerS
  omega

/-- MAX_OVF of a plan stays below the bound of R41. -/
theorem plan_maxOvf_lt {f : BitVec 32} {d : Delay} {p : Plan} (h : plan f d = some p) :
    p.maxOvf.toNat < 2 ^ 59 := by
  have hle := planMax_le f d.isLt
  rw [eq_of_plan_eq_some h, BitVec.toNat_ofNat]
  omega

/-- The prescaler of a plan is one of the four numeric codes 2 to 5 (R34, R92). -/
theorem plan_psc_cases {f : BitVec 32} {d : Delay} {p : Plan} (h : plan f d = some p) :
    p.psc = 2#3 ∨ p.psc = 3#3 ∨ p.psc = 4#3 ∨ p.psc = 5#3 := by
  rw [eq_of_plan_eq_some h]
  exact selectPsc_cases d.toNat

/-! ## What a step can write -/

/-- The polled expiry's callback writes the event stream alone. -/
theorem emitIfPresent_frame (s : State) : ∃ es, s.emitIfPresent = { s with events := es } := by
  by_cases hc : s.cbPresent = true
  · exact ⟨s.events ++ [s.cbToken], emitIfPresent_full hc⟩
  · exact ⟨s.events, emitIfPresent_empty (eq_false_of_ne_true hc)⟩

/-- Everything the meaning of an instruction can write, over all instructions (R44), with the guard under which the
counting logic or the calculator allows the write. `exec_effect` and `illegalCommand_effect` tie it to the model. -/
inductive State.Effect (s : State) : State → Prop
  | silent : s.Effect s
  | answer (code : RespCode) : s.Effect (s.respond code)
  | answerPlan (p : Plan) : s.Effect (s.respondPlan p.psc p.maxOvf p.lastTicks)
  | fault (f : Fault) : s.Effect (s.raise f)
  | refusal (r : Refusal) : s.Effect (s.refuse r)
  | count : s.Effect s.count
  | init (m : ModeCode) (p : PscCode) : s.Effect ((s.initEffect m p).respond .ok)
  | start (p : Plan) (cbp : Bool) (d : Delay) (tok : Token) (hp : plan s.fCpu d = some p) :
      s.Effect ((s.startEffect p cbp d tok).respond .ok)
  | stop : s.Effect (s.stopEffect.respond .ok)
  | polledFull (h : s.curOvf < s.maxOvf) : s.Effect (s.consumeFull.respond .running)
  | polledCompensating (h : s.curOvf = s.maxOvf) : s.Effect (s.loadCompensating.respond .running)
  | polledExpiry (h : s.maxOvf < s.curOvf) : s.Effect (s.emitIfPresent.stopEffect.respond .expired)
  | handledFull (h : s.curOvf < s.maxOvf) : s.Effect s.consumeFull
  | handledCompensating (h : s.curOvf = s.maxOvf) : s.Effect s.loadCompensating
  | handledExpiry (h : s.maxOvf < s.curOvf) : s.Effect s.enterInterrupt.expireInterrupt

theorem exec_effect {i : Instr} {s t : State} (h : exec i s = .next t) : s.Effect t := by
  cases i with
  | init mode psc =>
    obtain ⟨-, ⟨-, rfl⟩ | ⟨-, ⟨-, rfl⟩ | ⟨-, -, rfl⟩ | ⟨-, -, rfl⟩⟩⟩ := execInit_next h
    · exact .silent
    · exact .answer _
    · exact .answer _
    · exact .init _ _
  | start cbp delay cbtok =>
    obtain ⟨-, ⟨-, rfl⟩ | ⟨-, ⟨-, rfl⟩ | ⟨p, hp, ⟨-, rfl⟩ | ⟨-, rfl⟩⟩⟩⟩ := execStart_next h
    · exact .silent
    · exact .answer _
    · exact .answer _
    · exact .start p cbp delay cbtok hp
  | stop =>
    obtain ⟨-, ⟨-, rfl⟩ | ⟨-, rfl⟩⟩ := execStop_next h
    · exact .silent
    · exact .stop
  | getStatus =>
    obtain ⟨-, ⟨-, rfl⟩ | ⟨-, ⟨-, rfl⟩ | ⟨-, ⟨-, rfl⟩ | ⟨-, hlt, rfl⟩ | ⟨-, heq, rfl⟩ | ⟨-, hgt, rfl⟩⟩⟩⟩ :=
      execGetStatus_next h
    · exact .silent
    · exact .fault _
    · exact .answer _
    · exact .polledFull hlt
    · exact .polledCompensating heq
    · exact .polledExpiry hgt
  | plan delay =>
    obtain ⟨-, ⟨-, rfl⟩ | ⟨-, ⟨-, rfl⟩ | ⟨p, -, rfl⟩⟩⟩ := execPlan_next h
    · exact .silent
    · exact .answer _
    · exact .answerPlan p
  | tick =>
    obtain ⟨-, ⟨-, rfl⟩ | ⟨-, -, rfl⟩ | ⟨-, -, -, rfl⟩ | ⟨-, -, -, rfl⟩⟩ := execTick_next h
    · exact .silent
    · exact .refusal _
    · exact .refusal _
    · exact .count
  | ovfIsr =>
    obtain ⟨-, ⟨-, rfl⟩ | ⟨-, ⟨hlt, rfl⟩ | ⟨heq, rfl⟩ | ⟨hgt, -, rfl⟩ | ⟨-, -, rfl⟩⟩⟩ := execOvfIsr_next h
    · exact .silent
    · exact .handledFull hlt
    · exact .handledCompensating heq
    · exact .handledExpiry hgt
    · exact .fault _

theorem illegalCommand_effect {s t : State} (h : illegalCommand s = .next t) : s.Effect t := by
  obtain ⟨-, ⟨-, rfl⟩ | ⟨-, rfl⟩⟩ := illegalCommand_next h
  · exact .silent
  · exact .answer _

/-- A property that reads neither the schedule nor the choice counter nor GIE is kept by every step when every effect
keeps it: SETGIE is the one move that is no effect. -/
theorem step_preserves {P : State → Prop}
    (hmodel : ∀ s ms n, P s → P { s with schedule := ms, choices := n })
    (hgie : ∀ s v, P s → P (s.setGie v))
    (heffect : ∀ s t, s.Effect t → P s → P t)
    {s t : State} (hs : P s) (h : step s = .next t) : P t := by
  obtain ⟨-, ms, n, ⟨i, hi⟩ | hillegal | ⟨v, hv⟩⟩ := step_next h
  · exact heffect _ _ (exec_effect hi) (hmodel s ms n hs)
  · exact heffect _ _ (illegalCommand_effect hillegal) (hmodel s ms n hs)
  · obtain ⟨-, ⟨-, rfl⟩ | ⟨-, rfl⟩⟩ := setGieAction_next hv
    · exact hmodel s ms n hs
    · exact hgie _ v (hmodel s ms n hs)

/-! ## The register invariant (R41, R29, R32) -/

theorem inv_initEffect {s : State} (h : s.Inv) (m : ModeCode) (p : PscCode) : (s.initEffect m p).Inv := by
  obtain ⟨-, hmax, hslot, -⟩ := h
  exact ⟨Nat.zero_le _, hmax, hslot, rfl⟩

theorem inv_stopEffect {s : State} (h : s.Inv) : s.stopEffect.Inv := by
  obtain ⟨-, -, hslot, -⟩ := h
  exact ⟨Nat.zero_le _, by simp, hslot, rfl⟩

theorem inv_startEffect {s : State} {p : Plan} {d : Delay} (hp : plan s.fCpu d = some p) (cbp : Bool) (tok : Token) :
    (s.startEffect p cbp d tok).Inv :=
  ⟨Nat.zero_le _, plan_maxOvf_lt hp, fun hempty => if_neg (ne_true_of_eq_false hempty), rfl⟩

/-- Counting an overflow before expiry keeps CUR_OVF at most MAX_OVF + 1: it was at most MAX_OVF, far from a wrap. -/
theorem curOvf_succ_le {s : State} (h : s.Inv) (hle : s.curOvf ≤ s.maxOvf) :
    (s.curOvf + 1#64).toNat ≤ s.maxOvf.toNat + 1 := by
  obtain ⟨-, hmax, -, -⟩ := h
  bv_omega

theorem inv_consumeFull {s : State} (h : s.Inv) (hlt : s.curOvf < s.maxOvf) : s.consumeFull.Inv :=
  ⟨curOvf_succ_le h (BitVec.le_of_lt hlt), h.2⟩

theorem inv_loadCompensating {s : State} (h : s.Inv) (heq : s.curOvf = s.maxOvf) : s.loadCompensating.Inv :=
  ⟨curOvf_succ_le h (BitVec.le_of_eq heq), h.2⟩

theorem inv_expireInterrupt {s : State} (h : s.Inv) : s.enterInterrupt.expireInterrupt.Inv :=
  ⟨Nat.zero_le _, h.2⟩

theorem inv_emitIfPresent {s : State} (h : s.Inv) : s.emitIfPresent.Inv := by
  obtain ⟨es, he⟩ := emitIfPresent_frame s
  rw [he]
  exact h

theorem inv_of_effect {s t : State} (he : s.Effect t) (h : s.Inv) : t.Inv := by
  cases he with
  | silent | answer | answerPlan | fault | refusal | count => exact h
  | init m p => exact inv_initEffect h m p
  | start p cbp d tok hp => exact inv_startEffect hp cbp tok
  | stop => exact inv_stopEffect (s := s) h
  | polledFull hlt | handledFull hlt => exact inv_consumeFull h hlt
  | polledCompensating heq | handledCompensating heq => exact inv_loadCompensating h heq
  | polledExpiry => exact inv_stopEffect (s := s.emitIfPresent) (inv_emitIfPresent h)
  | handledExpiry => exact inv_expireInterrupt h

theorem inv_of_launch {s : State} (h : s.Launch) : s.Inv := by
  obtain ⟨-, hcur, hmax, -, -, hslot, hdiv⟩ := h
  exact ⟨hcur, hmax, hslot, hdiv⟩

/-- Of R201's conditions on the launch parameters only the one against a live compare interrupt is not met by the zeros
of the reset state. -/
theorem launch_legal_iff (g o : Bool) : (State.launch g o).Launch ↔ o = false ∨ g = false := by
  constructor
  · rintro ⟨-, -, -, -, hcompare, -, -⟩
    exact hcompare
  · intro hcompare
    exact ⟨⟨rfl, rfl⟩, Nat.zero_le _, by simp [State.launch, State.reset], .inl rfl, hcompare, fun _ => rfl, rfl⟩

/-! ## The armed-timer invariant (R34, R112, R113, R115) -/

/-- INIT and STOP clear RUNNING and leave PLAN_PSC, so nothing is asked of the timer after them. -/
theorem armedInv_of_not_running {s t : State} (h : s.ArmedInv) (hpsc : t.planPsc = s.planPsc)
    (hrun : t.running = false) : t.ArmedInv :=
  ⟨hpsc ▸ h.1, fun hr => absurd hr (ne_true_of_eq_false hrun)⟩

theorem armedInv_startEffect {s : State} {p : Plan} {d : Delay} (hp : plan s.fCpu d = some p) (cbp : Bool)
    (tok : Token) : (s.startEffect p cbp d tok).ArmedInv := by
  have hpsc := plan_psc_cases hp
  refine ⟨.inr hpsc, fun _ => ⟨rfl, rfl, rfl, ?_⟩⟩
  rcases hpsc with h | h | h | h <;> simp [h]

theorem armedInv_of_effect {s t : State} (he : s.Effect t) (h : s.ArmedInv) : t.ArmedInv := by
  cases he with
  | silent | answer | answerPlan | fault | refusal | count => exact h
  | polledFull | handledFull | polledCompensating | handledCompensating | handledExpiry => exact h
  | init | stop => exact armedInv_of_not_running h rfl rfl
  | start p cbp d tok hp => exact armedInv_startEffect hp cbp tok
  | polledExpiry =>
    obtain ⟨es, hes⟩ := emitIfPresent_frame s
    rw [hes]
    exact armedInv_of_not_running h rfl rfl

/-! ## The write matrix (R44) -/

/-- No instruction writes GIE, which is the environment's (R37), nor the model's own fields. -/
theorem exec_keeps_environment {i : Instr} {s t : State} (h : exec i s = .next t) :
    t.gie = s.gie ∧ t.schedule = s.schedule ∧ t.choices = s.choices ∧ t.fCpu = s.fCpu := by
  cases exec_effect h with
  | polledExpiry =>
    obtain ⟨es, hes⟩ := emitIfPresent_frame s
    rw [hes]
    exact ⟨rfl, rfl, rfl, rfl⟩
  | _ => exact ⟨rfl, rfl, rfl, rfl⟩

theorem execInit_frame {mode psc : BitVec 8} {s t : State} (h : execInit mode psc s = .next t) :
    t = { s with
      wgm := t.wgm, cs := t.cs, divisor := t.divisor, curOvf := t.curOvf, running := t.running,
      responses := t.responses } := by
  obtain ⟨-, ⟨-, rfl⟩ | ⟨-, ⟨-, rfl⟩ | ⟨-, -, rfl⟩ | ⟨-, -, rfl⟩⟩⟩ := execInit_next h <;> rfl

theorem execStart_frame {cbp : Bool} {d : Delay} {tok : Token} {s t : State}
    (h : execStart cbp d tok s = .next t) :
    t.ocie = s.ocie ∧ t.faultMark = s.faultMark ∧ t.refusedMark = s.refusedMark ∧ t.events = s.events := by
  obtain ⟨-, ⟨-, rfl⟩ | ⟨-, ⟨-, rfl⟩ | ⟨p, -, ⟨-, rfl⟩ | ⟨-, rfl⟩⟩⟩⟩ := execStart_next h <;>
    exact ⟨rfl, rfl, rfl, rfl⟩

theorem execStop_frame {s t : State} (h : execStop s = .next t) :
    t.tcnt = s.tcnt ∧ t.cbPresent = s.cbPresent ∧ t.cbToken = s.cbToken ∧ t.planDelay = s.planDelay ∧
    t.planPsc = s.planPsc ∧ t.faultMark = s.faultMark ∧ t.refusedMark = s.refusedMark ∧ t.events = s.events := by
  obtain ⟨-, ⟨-, rfl⟩ | ⟨-, rfl⟩⟩ := execStop_next h <;> exact ⟨rfl, rfl, rfl, rfl, rfl, rfl, rfl, rfl⟩

/-- GETSTATUS on every path, the Stop effect of the polled expiry among them. -/
theorem execGetStatus_keeps_slot_and_plan {s t : State} (h : execGetStatus s = .next t) :
    t.cbPresent = s.cbPresent ∧ t.cbToken = s.cbToken ∧ t.planDelay = s.planDelay ∧ t.planPsc = s.planPsc ∧
    t.refusedMark = s.refusedMark := by
  obtain ⟨es, hes⟩ := emitIfPresent_frame s
  obtain ⟨-, ⟨-, rfl⟩ | ⟨-, ⟨-, rfl⟩ | ⟨-, ⟨-, rfl⟩ | ⟨-, -, rfl⟩ | ⟨-, -, rfl⟩ | ⟨-, -, rfl⟩⟩⟩⟩ :=
    execGetStatus_next h
  · exact ⟨rfl, rfl, rfl, rfl, rfl⟩
  · exact ⟨rfl, rfl, rfl, rfl, rfl⟩
  · exact ⟨rfl, rfl, rfl, rfl, rfl⟩
  · exact ⟨rfl, rfl, rfl, rfl, rfl⟩
  · exact ⟨rfl, rfl, rfl, rfl, rfl⟩
  · rw [hes]
    exact ⟨rfl, rfl, rfl, rfl, rfl⟩

/-- GETSTATUS when the countdown does not expire. -/
theorem execGetStatus_frame {s t : State} (h : execGetStatus s = .next t)
    (hunexpired : ¬ (s.tov = true ∧ s.maxOvf < s.curOvf)) :
    t = { s with
      tcnt := t.tcnt, tov := t.tov, curOvf := t.curOvf, faultMark := t.faultMark, responses := t.responses } := by
  obtain ⟨-, ⟨-, rfl⟩ | ⟨-, ⟨-, rfl⟩ | ⟨-, ⟨-, rfl⟩ | ⟨-, -, rfl⟩ | ⟨-, -, rfl⟩ | ⟨htov, hgt, -⟩⟩⟩⟩ :=
    execGetStatus_next h
  · rfl
  · rfl
  · rfl
  · rfl
  · rfl
  · exact absurd ⟨htov, hgt⟩ hunexpired

theorem execPlan_frame {d : Delay} {s t : State} (h : execPlan d s = .next t) :
    t = { s with responses := t.responses } := by
  obtain ⟨-, ⟨-, rfl⟩ | ⟨-, ⟨-, rfl⟩ | ⟨p, -, rfl⟩⟩⟩ := execPlan_next h <;> rfl

theorem execTick_frame {s t : State} (h : execTick s = .next t) :
    t = { s with tcnt := t.tcnt, tov := t.tov, refusedMark := t.refusedMark } := by
  obtain ⟨-, ⟨-, rfl⟩ | ⟨-, -, rfl⟩ | ⟨-, -, -, rfl⟩ | ⟨-, -, -, rfl⟩⟩ := execTick_next h <;> rfl

theorem execOvfIsr_frame {s t : State} (h : execOvfIsr s = .next t) :
    t = { s with
      tcnt := t.tcnt, tov := t.tov, curOvf := t.curOvf, events := t.events, faultMark := t.faultMark } := by
  obtain ⟨-, ⟨-, rfl⟩ | ⟨-, ⟨-, rfl⟩ | ⟨-, rfl⟩ | ⟨-, -, rfl⟩ | ⟨-, -, rfl⟩⟩⟩ := execOvfIsr_next h <;> rfl

/-! ## The host's SETGIE move -/

/-- A ready state does not hold the host's move. -/
theorem step_of_setGie_turn {s : State} {v : Bool} {rest : List Move} (h : s.Ready)
    (hs : s.schedule = .setGie v :: rest) : step s = .next ((s.withSchedule rest).setGie v) := by
  obtain ⟨hl, hp⟩ := h
  have hready : (s.withSchedule rest).Ready := ⟨hl, hp⟩
  calc step s
    _ = runHostMove s rest (setGieAction v) := by
      unfold step takeStep
      rw [unlessMarked_of_live hl, hs]
    _ = setGieAction v (s.withSchedule rest) := by simp [runHostMove, hp]
    _ = .next ((s.withSchedule rest).setGie v) := hostCommand_of_ready hready _

/-! ## The register view (R42) -/

theorem viewBit_timsk_of_ge {s : State} {b : Fin 8} (h : 2 ≤ b.val) : s.viewBit .timsk b = none := by
  unfold State.viewBit
  split <;> simp_all

theorem viewBit_tifr_of_ge {s : State} {b : Fin 8} (h : 1 ≤ b.val) : s.viewBit .tifr b = none := by
  unfold State.viewBit
  split <;> simp_all

/-! ## The statements -/

/-- Settles O18, from what every effect makes of the counters, the slot and the divisor. -/
theorem invKeptByEveryStep : Obligations.InvKeptByEveryStep :=
  fun _ _ => step_preserves (fun _ _ _ h => h) (fun _ _ h => h) (fun _ _ => inv_of_effect)

/-- Settles O20: START is the one effect that sets RUNNING, and INIT and STOP, which change the clock, clear it. -/
theorem armedInvKeptByEveryStep : Obligations.ArmedInvKeptByEveryStep :=
  fun _ _ => step_preserves (fun _ _ _ h => h) (fun _ _ h => h) (fun _ _ => armedInv_of_effect)

/-- Settles O27, one column of the matrix at a time. -/
theorem writeMatrixFrame : Obligations.WriteMatrixFrame := by
  intro i s t h
  obtain ⟨hgie, hsched, hchoices, hfCpu⟩ := exec_keeps_environment h
  refine ⟨hgie, hsched, hchoices, hfCpu, ?_⟩
  cases i with
  | init => exact execInit_frame h
  | start => exact execStart_frame h
  | stop => exact execStop_frame h
  | getStatus =>
    obtain ⟨hpresent, htoken, hdelay, hpsc, hrefused⟩ := execGetStatus_keeps_slot_and_plan h
    exact ⟨hpresent, htoken, hdelay, hpsc, hrefused, execGetStatus_frame h⟩
  | plan => exact execPlan_frame h
  | tick => exact execTick_frame h
  | ovfIsr => exact execOvfIsr_frame h

/-- Settles O9: a ready state does not hold the move, and the move writes GIE alone. -/
theorem setGieWritesOnlyGie : Obligations.SetGieWritesOnlyGie := fun _ _ _ => step_of_setGie_turn

/-- Settles O15: each clause reads one field of the reset state, or an output with no response given. -/
theorem resetValuesAreZero : Obligations.ResetValuesAreZero := by
  unfold Obligations.ResetValuesAreZero
  decide

/-- Settles O17: R201 asks for the register invariant and more, and the reset state's zeros meet the rest. -/
theorem invHoldsAtResetAndLaunch : Obligations.InvHoldsAtResetAndLaunch := by
  refine ⟨by decide, fun _ => inv_of_launch, fun g o => ?_⟩
  rw [launch_legal_iff]
  cases g <;> cases o <;> simp

/-- Settles O56, register by register: the bits the block has hold by the layout's own table. -/
theorem registerViewLayout : Obligations.RegisterViewLayout :=
  fun _ => ⟨fun _ => rfl, rfl, rfl, rfl, rfl, rfl, rfl, rfl, rfl, rfl, rfl, rfl,
    fun _ => viewBit_timsk_of_ge, fun _ => viewBit_tifr_of_ge⟩

end Sys2Proof.Machine
end

section
/-! SUPPORT. The command the host presents as the step runs it, and what a host read gives: a register's whole value and
its bytes (statements of 20_memory.md). -/

namespace Sys2Proof.Machine

/-! ## The host's command move (R55, R56) -/

/-- A ready state does not hold the host's move. -/
theorem runHostMove_of_ready {s : State} (h : s.Ready) (rest : List Move) (move : State → StepResult) :
    runHostMove s rest move = move (s.withSchedule rest) := by
  simp [runHostMove, h.2]

theorem step_of_command_turn {s : State} {c : Command} {rest : List Move} (h : s.Ready)
    (hs : s.schedule = .command c :: rest) : step s = runCommand c (s.withSchedule rest) := by
  calc step s
    _ = runHostMove s rest (runCommand c) := by
      unfold step takeStep
      rw [unlessMarked_of_live h.1, hs]
    _ = runCommand c (s.withSchedule rest) := runHostMove_of_ready h rest _

theorem runCommand_of_decode {c : Command} {i : Instr} (h : decode c = .instr i) (s : State) :
    runCommand c s = exec i s := by
  unfold runCommand
  rw [h]

/-! ## The bytes of a number (R52) -/

theorem length_bytesLE (n v : Nat) : (bytesLE n v).length = n := by
  induction n generalizing v with
  | zero => rfl
  | succ n ih => simp [bytesLE, ih]

/-- `n` little-endian bytes carry a number modulo `256 ^ n`. -/
theorem foldr_bytesLE (n v : Nat) :
    (bytesLE n v).foldr (fun b acc => b.toNat + 256 * acc) 0 = v % 256 ^ n := by
  induction n generalizing v with
  | zero => simp [bytesLE, Nat.mod_one]
  | succ n ih =>
    calc (bytesLE (n + 1) v).foldr (fun b acc => b.toNat + 256 * acc) 0
      _ = v % 256 + 256 * (v / 256 % 256 ^ n) := by simp [bytesLE, ih]
      _ = v % 256 ^ (n + 1) := by rw [Nat.pow_succ', Nat.mod_mul]

/-- A value of `w` bits fits in the bytes that `w` needs. -/
theorem toNat_lt_bytes {w : Nat} (v : BitVec w) : v.toNat < 256 ^ ((w + 7) / 8) := by
  calc v.toNat
    _ < 2 ^ w := v.isLt
    _ ≤ 2 ^ (8 * ((w + 7) / 8)) := Nat.pow_le_pow_right (by decide) (by omega)
    _ = 256 ^ ((w + 7) / 8) := Nat.pow_mul 2 8 _

/-! ## The host's read of a register (R54, R205) -/

theorem interruptPathLive_eq_false {s : State} (h : s.gie = false ∨ s.toie = false) :
    s.interruptPathLive = false := by
  rcases h with hgie | htoie
  · simp [State.interruptPathLive, hgie]
  · simp [State.interruptPathLive, htoie]

/-- While the interrupt path is not live, the read of CUR_OVF is no free value. -/
theorem readRegister_curOvf {s : State} (h : s.interruptPathLive = false) : s.readRegister .curOvf = s.curOvf :=
  if_neg (by simp [h])

theorem length_readBytes (s : State) (r : Register) : (s.readBytes r).length = (r.width + 7) / 8 :=
  length_bytesLE _ _

theorem foldr_readBytes (s : State) (r : Register) :
    (s.readBytes r).foldr (fun b acc => b.toNat + 256 * acc) 0 = (s.readRegister r).toNat := by
  unfold State.readBytes
  rw [foldr_bytesLE, Nat.mod_eq_of_lt (toNat_lt_bytes _)]

/-! ## The statements -/

/-- Settles O58: the bytes carry the value read modulo `256` to their number, and a register's width fits in them. -/
theorem bytesAreLittleEndian : Obligations.BytesAreLittleEndian :=
  fun s r => ⟨length_readBytes s r, foldr_readBytes s r⟩

/-- Settles O7: a ready state does not hold the presented command, and its word decodes to the instruction. -/
theorem stepRunsTheDecodedCommand : Obligations.StepRunsTheDecodedCommand := by
  intro s c rest i hready hsched hdecode
  calc step s
    _ = runCommand c (s.withSchedule rest) := step_of_command_turn hready hsched
    _ = exec i (s.withSchedule rest) := runCommand_of_decode hdecode _

/-- Settles O57: each clause but the last is a row of the read's own table; CUR_OVF is read where the interrupt path is
not live. -/
theorem hostReadsWholeRegisters : Obligations.HostReadsWholeRegisters :=
  fun _ => ⟨rfl, rfl, rfl, rfl, rfl, rfl, rfl, rfl, rfl, rfl, rfl, rfl, rfl, rfl, rfl, rfl, rfl,
    fun h => readRegister_curOvf (interruptPathLive_eq_false h)⟩

end Sys2Proof.Machine
end


section
/-! SUPPORT. The command words by their fields, the decoder and the encoder, the move that presents an illegal word, and
the responses each instruction can give (statements of 30_encoding.md). -/

namespace Sys2Proof.Machine

/-! ## A command word is its fields -/

/-- Two adjacent fields together are each of the two. -/
theorem extract_eq_extract_iff {w : Nat} (v u : BitVec w) (lo a b : Nat) :
    v.extractLsb' lo (b + a) = u.extractLsb' lo (b + a) ↔
      v.extractLsb' lo a = u.extractLsb' lo a ∧ v.extractLsb' (lo + a) b = u.extractLsb' (lo + a) b := by
  rw [← BitVec.extractLsb'_append_extractLsb'_eq_extractLsb' (x := v) rfl,
    ← BitVec.extractLsb'_append_extractLsb'_eq_extractLsb' (x := u) rfl]
  constructor
  · intro h
    have hlow := congrArg (BitVec.extractLsb' 0 a) h
    have hhigh := congrArg (BitVec.extractLsb' a b) h
    rw [BitVec.extractLsb'_append_eq_right, BitVec.extractLsb'_append_eq_right] at hlow
    rw [BitVec.extractLsb'_append_eq_left, BitVec.extractLsb'_append_eq_left] at hhigh
    exact ⟨hlow, hhigh⟩
  · rintro ⟨hlow, hhigh⟩
    rw [hlow, hhigh]

/-- A word is its opcode and the 24 bits above it: the format of STOP, GETSTATUS and PLAN (R74). -/
theorem word_eq_iff_plain_fields (v u : CmdWord) :
    v = u ↔ opField v = opField u ∧ v.extractLsb' 8 24 = u.extractLsb' 8 24 := by
  simpa [opField] using extract_eq_extract_iff v u 0 8 24

/-- A word is its fields in the format of INIT (R72). -/
theorem word_eq_iff_init_fields (v u : CmdWord) :
    v = u ↔ opField v = opField u ∧ modeField v = modeField u ∧ pscField v = pscField u ∧
      v.extractLsb' 24 8 = u.extractLsb' 24 8 := by
  rw [word_eq_iff_plain_fields, extract_eq_extract_iff v u 8 8 16, extract_eq_extract_iff v u 16 8 8]
  rfl

theorem extractLsb'_one {w : Nat} (v : BitVec w) (lo : Nat) : v.extractLsb' lo 1 = BitVec.ofBool (v.getLsbD lo) := by
  ext k hk
  have hk0 : k = 0 := by omega
  simp [hk0]

/-- A word is its fields in the format of START (R73). -/
theorem word_eq_iff_start_fields (v u : CmdWord) :
    v = u ↔ opField v = opField u ∧ cbpField v = cbpField u ∧ v.extractLsb' 9 23 = u.extractLsb' 9 23 := by
  have hcbp : v.extractLsb' 8 1 = u.extractLsb' 8 1 ↔ cbpField v = cbpField u := by
    rw [extractLsb'_one, extractLsb'_one]
    exact BitVec.ofBool_eq_iff_eq
  rw [word_eq_iff_plain_fields, extract_eq_extract_iff v u 8 1 23, hcbp]

/-! ## The fields of a placed value -/

theorem extract_placeField_self {n lo : Nat} (v : BitVec n) (h : lo + n ≤ 32) :
    (placeField lo v).extractLsb' lo n = v := by
  ext k hk
  have hin : lo + k < 32 := by omega
  simp [placeField, hin, hk]

theorem extract_placeField_of_disjoint {n lo p m : Nat} (v : BitVec n) (h : p + m ≤ lo ∨ lo + n ≤ p) :
    (placeField lo v).extractLsb' p m = 0#m := by
  ext k hk
  simp only [BitVec.getElem_extractLsb', placeField, BitVec.getLsbD_shiftLeft, BitVec.getLsbD_setWidth,
    BitVec.getElem_zero]
  rcases h with hbelow | habove
  · have hlow : p + k < lo := by omega
    simp [hlow]
  · have hhigh : v.getLsbD (p + k - lo) = false := BitVec.getLsbD_of_ge _ _ (by omega)
    simp [hhigh]

/-! ## The encoded words -/

/-- The command word of an INIT (R72). -/
def initWord (mode psc : BitVec 8) : CmdWord := placeField 16 psc ||| placeField 8 mode ||| 0x01#32

/-- The command word of a START (R73). -/
def startWord (cbp : Bool) : CmdWord := placeField 8 (BitVec.ofBool cbp) ||| 0x02#32

theorem encode_init (mode psc : BitVec 8) : encode (.init mode psc) = some ⟨initWord mode psc, 0#64, 0#16⟩ := rfl

theorem encode_start (cbp : Bool) (d : Delay) (tok : Token) :
    encode (.start cbp d tok) = some ⟨startWord cbp, d, tok⟩ := rfl

@[simp] theorem opField_initWord (mode psc : BitVec 8) : opField (initWord mode psc) = 0x01#8 :=
  Option.some.inj (Laws.EncodedOpcode.init mode psc)

@[simp] theorem modeField_initWord (mode psc : BitVec 8) : modeField (initWord mode psc) = mode := by
  have hpsc : (placeField 16 psc).extractLsb' 8 8 = 0#8 := extract_placeField_of_disjoint psc (.inl (by decide))
  have hmode : (placeField 8 mode).extractLsb' 8 8 = mode := extract_placeField_self mode (by decide)
  simp [modeField, initWord, BitVec.extractLsb'_or, hpsc, hmode]

@[simp] theorem pscField_initWord (mode psc : BitVec 8) : pscField (initWord mode psc) = psc := by
  have hpsc : (placeField 16 psc).extractLsb' 16 8 = psc := extract_placeField_self psc (by decide)
  have hmode : (placeField 8 mode).extractLsb' 16 8 = 0#8 := extract_placeField_of_disjoint mode (.inr (by decide))
  simp [pscField, initWord, BitVec.extractLsb'_or, hpsc, hmode]

@[simp] theorem reserved_initWord (mode psc : BitVec 8) : (initWord mode psc).extractLsb' 24 8 = 0#8 := by
  have hpsc : (placeField 16 psc).extractLsb' 24 8 = 0#8 := extract_placeField_of_disjoint psc (.inr (by decide))
  have hmode : (placeField 8 mode).extractLsb' 24 8 = 0#8 := extract_placeField_of_disjoint mode (.inr (by decide))
  simp [initWord, BitVec.extractLsb'_or, hpsc, hmode]

@[simp] theorem opField_startWord (cbp : Bool) : opField (startWord cbp) = 0x02#8 :=
  Option.some.inj (Laws.EncodedOpcode.start cbp 0#64 0#16)

@[simp] theorem cbpField_startWord (cbp : Bool) : cbpField (startWord cbp) = cbp := by
  cases cbp <;> decide

@[simp] theorem reserved_startWord (cbp : Bool) : (startWord cbp).extractLsb' 9 23 = 0#23 := by
  cases cbp <;> decide

/-! ## The decoder, format by format -/

theorem decode_of_init_format {c : Command} (hop : opField c.word = 0x01#8)
    (hres : c.word.extractLsb' 24 8 = 0#8) : decode c = .instr (.init (modeField c.word) (pscField c.word)) := by
  simp [decode, ifReservedZero, hop, hres]

theorem decode_of_start_format {c : Command} (hop : opField c.word = 0x02#8)
    (hres : c.word.extractLsb' 9 23 = 0#23) : decode c = .instr (startOperands c) := by
  simp [decode, ifReservedZero, hop, hres]

theorem decode_of_stop_format {c : Command} (hop : opField c.word = 0x03#8)
    (hres : c.word.extractLsb' 8 24 = 0#24) : decode c = .instr .stop := by
  simp [decode, ifReservedZero, hop, hres]

theorem decode_of_getStatus_format {c : Command} (hop : opField c.word = 0x04#8)
    (hres : c.word.extractLsb' 8 24 = 0#24) : decode c = .instr .getStatus := by
  simp [decode, ifReservedZero, hop, hres]

theorem decode_of_plan_format {c : Command} (hop : opField c.word = 0x05#8)
    (hres : c.word.extractLsb' 8 24 = 0#24) : decode c = .instr (.plan c.delay) := by
  simp [decode, ifReservedZero, hop, hres]

/-- A word in none of the five formats is illegal (R75). -/
theorem decode_illegal {c : Command}
    (hinit : ¬ (opField c.word = 0x01#8 ∧ c.word.extractLsb' 24 8 = 0#8))
    (hstart : ¬ (opField c.word = 0x02#8 ∧ c.word.extractLsb' 9 23 = 0#23))
    (hstop : ¬ (opField c.word = 0x03#8 ∧ c.word.extractLsb' 8 24 = 0#24))
    (hstatus : ¬ (opField c.word = 0x04#8 ∧ c.word.extractLsb' 8 24 = 0#24))
    (hplan : ¬ (opField c.word = 0x05#8 ∧ c.word.extractLsb' 8 24 = 0#24)) :
    ∃ why, decode c = .illegal why := by
  cases hd : decode c with
  | illegal why => exact ⟨why, rfl⟩
  | instr i =>
    rcases decode_instr hd with ⟨hop, hres, -⟩ | ⟨hop, hres, -⟩ | ⟨hop, hres, -⟩ | ⟨hop, hres, -⟩ | ⟨hop, hres, -⟩
    · exact absurd ⟨hop, hres⟩ hinit
    · exact absurd ⟨hop, hres⟩ hstart
    · exact absurd ⟨hop, hres⟩ hstop
    · exact absurd ⟨hop, hres⟩ hstatus
    · exact absurd ⟨hop, hres⟩ hplan

/-! ## Decoding and encoding are inverse -/

/-- The token of a well-formed START is what the decoder makes of it on the token bus (R73, log entry 22). -/
theorem unreadToken_of_wellFormed {cbp : Bool} {d : Delay} {tok : Token}
    (h : (Instr.start cbp d tok).wellFormed = true) : (if cbp then tok else 0#16) = tok := by
  cases cbp with
  | true => rfl
  | false =>
    have htok : tok = 0#16 := by simpa [Instr.wellFormed] using h
    exact htok.symm

theorem wellFormed_startOperands (c : Command) : (startOperands c).wellFormed = true := by
  cases hcbp : cbpField c.word <;> simp [startOperands, Instr.wellFormed, hcbp]

theorem decode_encoded_init (mode psc : BitVec 8) :
    decode ⟨initWord mode psc, 0#64, 0#16⟩ = .instr (.init mode psc) := by
  simpa using decode_of_init_format (c := ⟨initWord mode psc, 0#64, 0#16⟩) (opField_initWord mode psc)
    (reserved_initWord mode psc)

theorem decode_encoded_start {cbp : Bool} {d : Delay} {tok : Token}
    (h : (Instr.start cbp d tok).wellFormed = true) :
    decode ⟨startWord cbp, d, tok⟩ = .instr (.start cbp d tok) := by
  have hoperands : startOperands ⟨startWord cbp, d, tok⟩ = .start cbp d tok := by
    simp only [startOperands, cbpField_startWord, unreadToken_of_wellFormed h]
  rw [decode_of_start_format (c := ⟨startWord cbp, d, tok⟩) (opField_startWord cbp) (reserved_startWord cbp),
    hoperands]

theorem decode_encoded_plan (d : Delay) : decode ⟨0x05#32, d, 0#16⟩ = .instr (.plan d) := by
  have hop : opField 0x05#32 = 0x05#8 := rfl
  have hres : (0x05#32).extractLsb' 8 24 = 0#24 := rfl
  exact decode_of_plan_format (c := ⟨0x05#32, d, 0#16⟩) hop hres

theorem initWord_of_fields {w : CmdWord} (hop : opField w = 0x01#8) (hres : w.extractLsb' 24 8 = 0#8) :
    initWord (modeField w) (pscField w) = w := by
  simp [word_eq_iff_init_fields, hop, hres]

theorem startWord_of_fields {w : CmdWord} (hop : opField w = 0x02#8) (hres : w.extractLsb' 9 23 = 0#23) :
    startWord (cbpField w) = w := by
  simp [word_eq_iff_start_fields, hop, hres]

/-- The format of the three commands without a field: a word that is its opcode alone (R74). -/
theorem word_eq_opcode_iff (w : CmdWord) (op : BitVec 8) :
    w = placeField 0 op ↔ opField w = op ∧ w.extractLsb' 8 24 = 0#24 := by
  have hop : opField (placeField 0 op) = op := extract_placeField_self op (by decide)
  have hrest : (placeField 0 op).extractLsb' 8 24 = 0#24 := extract_placeField_of_disjoint op (.inr (by decide))
  rw [word_eq_iff_plain_fields, hop, hrest]

/-! ## Match and mask (R81) -/

/-- INIT's mask keeps the opcode and the reserved bits, and clears MODE and PSC. -/
theorem initMatch_iff (w : CmdWord) :
    w &&& 0xFF0000FF#32 = 0x00000001#32 ↔ opField w = 0x01#8 ∧ w.extractLsb' 24 8 = 0#8 := by
  have hop : opField (w &&& 0xFF0000FF#32) = opField w := BitVec.extractLsb'_and.trans BitVec.and_allOnes
  have hres : (w &&& 0xFF0000FF#32).extractLsb' 24 8 = w.extractLsb' 24 8 :=
    BitVec.extractLsb'_and.trans BitVec.and_allOnes
  have hmode : modeField (w &&& 0xFF0000FF#32) = 0#8 := BitVec.extractLsb'_and.trans BitVec.and_zero
  have hpsc : pscField (w &&& 0xFF0000FF#32) = 0#8 := BitVec.extractLsb'_and.trans BitVec.and_zero
  rw [word_eq_iff_init_fields, hop, hmode, hpsc, hres]
  exact ⟨fun ⟨ho, _, _, hr⟩ => ⟨ho, hr⟩, fun ⟨ho, hr⟩ => ⟨ho, rfl, rfl, hr⟩⟩

/-- START's mask keeps every bit but CBP. -/
theorem startMatch_iff (w : CmdWord) :
    w &&& 0xFFFFFEFF#32 = 0x00000002#32 ↔ opField w = 0x02#8 ∧ w.extractLsb' 9 23 = 0#23 := by
  have hop : opField (w &&& 0xFFFFFEFF#32) = opField w := BitVec.extractLsb'_and.trans BitVec.and_allOnes
  have hres : (w &&& 0xFFFFFEFF#32).extractLsb' 9 23 = w.extractLsb' 9 23 :=
    BitVec.extractLsb'_and.trans BitVec.and_allOnes
  have hcbp : cbpField (w &&& 0xFFFFFEFF#32) = false := by simp [cbpField]
  rw [word_eq_iff_start_fields, hop, hcbp, hres]
  exact ⟨fun ⟨ho, _, hr⟩ => ⟨ho, hr⟩, fun ⟨ho, hr⟩ => ⟨ho, rfl, hr⟩⟩

/-! ## The move that presents an illegal word (R75, R175) -/

theorem runCommand_of_illegal {c : Command} {why : IllegalReason} (h : decode c = .illegal why) (s : State) :
    runCommand c s = illegalCommand s := by
  unfold runCommand
  rw [h]

theorem illegalCommand_of_ready {s : State} (h : s.Ready) : illegalCommand s = .next (s.respond .illegalCommand) :=
  hostCommand_of_ready h _

theorem step_of_illegal_word {s : State} {c : Command} {rest : List Move} {why : IllegalReason} (h : s.Ready)
    (hs : s.schedule = .command c :: rest) (hd : decode c = .illegal why) :
    step s = .next ((s.withSchedule rest).respond .illegalCommand) := by
  have hready : (s.withSchedule rest).Ready := h
  calc step s
    _ = runCommand c (s.withSchedule rest) := step_of_command_turn h hs
    _ = illegalCommand (s.withSchedule rest) := runCommand_of_illegal hd _
    _ = .next ((s.withSchedule rest).respond .illegalCommand) := illegalCommand_of_ready hready

/-! ## The responses of each instruction (R76, R77) -/

/-- A response with the data outputs 0 (R77). -/
def noData (code : RespCode) : Response := ⟨code, 0#3, 0#64, 0#8⟩

/-- PLAN's response (R99). -/
def planAnswer : Option Plan → Response
  | none   => noData .invalidDelay
  | some p => ⟨.ok, p.psc, p.maxOvf, p.lastTicks⟩

/-- The codes R76 gives each command; an internal event has none. -/
def answerCodes : Instr → List RespCode
  | .init _ _    => [.ok, .invalidMode, .invalidPrescaler]
  | .start _ _ _ => [.ok, .invalidDelay, .missingCallback]
  | .stop        => [.ok]
  | .getStatus   => [.running, .expired]
  | .plan _      => [.ok, .invalidDelay]
  | .tick        => []
  | .ovfIsr      => []

/-- Every response an instruction can give at this F_CPU. `exec_answers` ties it to `exec`. -/
def answers (fCpu : BitVec 32) : Instr → List Response
  | .plan d => [planAnswer (plan fCpu d)]
  | i       => (answerCodes i).map noData

theorem code_planAnswer_mem (p : Option Plan) (d : Delay) : (planAnswer p).code ∈ answerCodes (.plan d) := by
  cases p <;> simp [planAnswer, noData, answerCodes]

theorem code_mem_of_mem_answers {f : BitVec 32} {i : Instr} {r : Response} (h : r ∈ answers f i) :
    r.code ∈ answerCodes i := by
  cases i with
  | plan d =>
    obtain rfl := List.mem_singleton.mp h
    exact code_planAnswer_mem _ d
  | _ =>
    obtain ⟨code, hcode, rfl⟩ := List.mem_map.mp h
    exact hcode

/-- From `s` to `t` no response is given, or one of the list. -/
def State.AnswersFrom (s t : State) (rs : List Response) : Prop :=
  t.responses = s.responses ∨ ∃ r ∈ rs, t.responses = s.responses ++ [r]

theorem answersFrom_of_response {s t : State} {rs : List Response} (r : Response) (hr : r ∈ rs)
    (h : t.responses = s.responses ++ [r]) : s.AnswersFrom t rs :=
  .inr ⟨r, hr, h⟩

theorem responses_polledExpiry (s : State) :
    (s.emitIfPresent.stopEffect.respond .expired).responses = s.responses ++ [noData .expired] := by
  obtain ⟨es, hes⟩ := emitIfPresent_frame s
  rw [hes]
  rfl

theorem exec_answers {i : Instr} {s t : State} (h : exec i s = .next t) : s.AnswersFrom t (answers s.fCpu i) := by
  cases i with
  | init mode psc =>
    obtain ⟨-, ⟨-, rfl⟩ | ⟨-, ⟨-, rfl⟩ | ⟨-, -, rfl⟩ | ⟨-, -, rfl⟩⟩⟩ := execInit_next h
    · exact .inl rfl
    · exact answersFrom_of_response (noData .invalidMode) (by simp [answers, answerCodes]) rfl
    · exact answersFrom_of_response (noData .invalidPrescaler) (by simp [answers, answerCodes]) rfl
    · exact answersFrom_of_response (noData .ok) (by simp [answers, answerCodes]) rfl
  | start cbp delay cbtok =>
    obtain ⟨-, ⟨-, rfl⟩ | ⟨-, ⟨-, rfl⟩ | ⟨p, -, ⟨-, -, rfl⟩ | ⟨-, rfl⟩⟩⟩⟩ := execStart_next h
    · exact .inl rfl
    · exact answersFrom_of_response (noData .invalidDelay) (by simp [answers, answerCodes]) rfl
    · exact answersFrom_of_response (noData .missingCallback) (by simp [answers, answerCodes]) rfl
    · exact answersFrom_of_response (noData .ok) (by simp [answers, answerCodes]) rfl
  | stop =>
    obtain ⟨-, ⟨-, rfl⟩ | ⟨-, rfl⟩⟩ := execStop_next h
    · exact .inl rfl
    · exact answersFrom_of_response (noData .ok) (by simp [answers, answerCodes]) rfl
  | getStatus =>
    obtain ⟨-, ⟨-, rfl⟩ | ⟨-, ⟨-, rfl⟩ | ⟨-, ⟨-, rfl⟩ | ⟨-, -, rfl⟩ | ⟨-, -, rfl⟩ | ⟨-, -, rfl⟩⟩⟩⟩ :=
      execGetStatus_next h
    · exact .inl rfl
    · exact .inl rfl
    · exact answersFrom_of_response (noData .running) (by simp [answers, answerCodes]) rfl
    · exact answersFrom_of_response (noData .running) (by simp [answers, answerCodes]) rfl
    · exact answersFrom_of_response (noData .running) (by simp [answers, answerCodes]) rfl
    · exact answersFrom_of_response (noData .expired) (by simp [answers, answerCodes]) (responses_polledExpiry s)
  | plan delay =>
    obtain ⟨-, ⟨-, rfl⟩ | ⟨-, ⟨hp, rfl⟩ | ⟨p, hp, rfl⟩⟩⟩ := execPlan_next h
    · exact .inl rfl
    · exact answersFrom_of_response (planAnswer none) (by simp [answers, hp]) rfl
    · exact answersFrom_of_response (planAnswer (some p)) (by simp [answers, hp]) rfl
  | tick =>
    obtain ⟨-, ⟨-, rfl⟩ | ⟨-, -, rfl⟩ | ⟨-, -, -, rfl⟩ | ⟨-, -, -, rfl⟩⟩ := execTick_next h <;> exact .inl rfl
  | ovfIsr =>
    obtain ⟨-, ⟨-, rfl⟩ | ⟨-, ⟨-, rfl⟩ | ⟨-, rfl⟩ | ⟨-, -, rfl⟩ | ⟨-, -, rfl⟩⟩⟩ := execOvfIsr_next h <;>
      exact .inl rfl

theorem illegalCommand_answers {s t : State} (h : illegalCommand s = .next t) :
    s.AnswersFrom t [noData .illegalCommand] := by
  obtain ⟨-, ⟨-, rfl⟩ | ⟨-, rfl⟩⟩ := illegalCommand_next h
  · exact .inl rfl
  · exact answersFrom_of_response (noData .illegalCommand) (by simp) rfl

/-- A response that was given is one of the list. -/
theorem mem_of_answersFrom {s t : State} {rs : List Response} {r : Response} (h : s.AnswersFrom t rs)
    (hr : t.responses = s.responses ++ [r]) : r ∈ rs := by
  rcases h with hsilent | ⟨r', hmem, hr'⟩
  · simp [hsilent] at hr
  · have heq : r' = r := by simpa [hr'] using hr
    exact heq ▸ hmem

/-- The output latches show the response `r` (R38, R77). -/
def State.Shows (t : State) (r : Response) : Prop :=
  t.responseOut = r.code.byte ∧ t.pscOut = r.pscOut ∧ t.maxOut = r.maxOut ∧ t.lastOut = r.lastOut

/-- Where a response was given, the latches show one of the list. -/
theorem shows_of_answersFrom {s t : State} {rs : List Response} (h : s.AnswersFrom t rs)
    (hne : t.responses ≠ s.responses) : ∃ r ∈ rs, t.Shows r := by
  rcases h with hsilent | ⟨r, hmem, hr⟩
  · exact absurd hsilent hne
  · refine ⟨r, hmem, ?_⟩
    simp [State.Shows, State.responseOut, State.pscOut, State.maxOut, State.lastOut, State.lastResponse, hr]

/-! ## The statements -/

/-- Settles O1, one constructor at a time: the fields of the encoded word are the operands. -/
theorem decodeInvertsEncode : Obligations.DecodeInvertsEncode := by
  intro i
  cases i with
  | init mode psc => exact ⟨fun _ _ => ⟨_, encode_init mode psc, decode_encoded_init mode psc⟩, nofun⟩
  | start cbp d tok => exact ⟨fun _ hwf => ⟨_, encode_start cbp d tok, decode_encoded_start hwf⟩, nofun⟩
  | stop => exact ⟨fun _ _ => ⟨_, rfl, decode_of_stop_format rfl rfl⟩, nofun⟩
  | getStatus => exact ⟨fun _ _ => ⟨_, rfl, decode_of_getStatus_format rfl rfl⟩, nofun⟩
  | plan d => exact ⟨fun _ _ => ⟨_, rfl, decode_encoded_plan d⟩, nofun⟩
  | tick => exact ⟨nofun, fun _ => rfl⟩
  | ovfIsr => exact ⟨nofun, fun _ => rfl⟩

/-- Settles O2, format by format: a word in the format of its command is determined by the fields the command holds. -/
theorem decodedWordIsTheEncodedWord : Obligations.DecodedWordIsTheEncodedWord := by
  intro c i h
  rcases decode_instr h with
    ⟨hop, hres, rfl⟩ | ⟨hop, hres, rfl⟩ | ⟨hop, hres, rfl⟩ | ⟨hop, hres, rfl⟩ | ⟨hop, hres, rfl⟩
  · exact ⟨rfl, rfl, _, encode_init _ _, initWord_of_fields hop hres⟩
  · exact ⟨rfl, wellFormed_startOperands c, _, encode_start _ _ _, startWord_of_fields hop hres⟩
  · exact ⟨rfl, rfl, _, rfl, ((word_eq_opcode_iff c.word 0x03#8).mpr ⟨hop, hres⟩).symm⟩
  · exact ⟨rfl, rfl, _, rfl, ((word_eq_opcode_iff c.word 0x04#8).mpr ⟨hop, hres⟩).symm⟩
  · exact ⟨rfl, rfl, _, rfl, ((word_eq_opcode_iff c.word 0x05#8).mpr ⟨hop, hres⟩).symm⟩

/-- Settles O3: matching a command's match and mask is being in its format. -/
theorem decodeFollowsMatchAndMask : Obligations.DecodeFollowsMatchAndMask := by
  intro c
  refine ⟨fun h => ?_, fun h => ?_, fun h => ?_, fun h => ?_, fun h => ?_, fun hinit hstart hstop hstatus hplan => ?_⟩
  · obtain ⟨hop, hres⟩ := (initMatch_iff c.word).mp h
    exact decode_of_init_format hop hres
  · obtain ⟨hop, hres⟩ := (startMatch_iff c.word).mp h
    exact decode_of_start_format hop hres
  · obtain ⟨hop, hres⟩ := (word_eq_opcode_iff c.word 0x03#8).mp h
    exact decode_of_stop_format hop hres
  · obtain ⟨hop, hres⟩ := (word_eq_opcode_iff c.word 0x04#8).mp h
    exact decode_of_getStatus_format hop hres
  · obtain ⟨hop, hres⟩ := (word_eq_opcode_iff c.word 0x05#8).mp h
    exact decode_of_plan_format hop hres
  · exact decode_illegal (mt (initMatch_iff _).mpr hinit) (mt (startMatch_iff _).mpr hstart)
      (mt (word_eq_opcode_iff _ 0x03#8).mpr hstop) (mt (word_eq_opcode_iff _ 0x04#8).mpr hstatus)
      (mt (word_eq_opcode_iff _ 0x05#8).mpr hplan)

/-- Settles O5: such a word is in no command's format, so the move answers ILLEGAL_COMMAND alone. -/
theorem illegalWordRespondsAndWritesNothing : Obligations.IllegalWordRespondsAndWritesNothing := by
  intro s c rest hready hs hinit hstart hstop hstatus hplan
  obtain ⟨why, hd⟩ := decode_illegal hinit hstart hstop hstatus hplan
  exact ⟨step_of_illegal_word hready hs hd, byte_illegalCommand⟩

/-- Settles O25: the numbers are R76's, and a response given is one of those the instruction can give. -/
theorem responseCodesAndTheirCommands : Obligations.ResponseCodesAndTheirCommands := by
  refine ⟨⟨rfl, rfl, rfl, rfl, rfl, rfl, rfl, rfl⟩, fun i s t r h hr => ?_, fun s t r h hr => ?_⟩
  · have hcode := code_mem_of_mem_answers (mem_of_answersFrom (exec_answers h) hr)
    cases i with
    | init | start | stop | getStatus | plan => simpa [answerCodes] using hcode
    | tick | ovfIsr => exact absurd hcode List.not_mem_nil
  · have hmem := mem_of_answersFrom (illegalCommand_answers h) hr
    rw [List.mem_singleton.mp hmem]
    rfl

/-- Settles O26: the latches show the response that was given, which carries data only after a PLAN that answers OK. -/
theorem dataOutputsHoldThePlanOrZero : Obligations.DataOutputsHoldThePlanOrZero := by
  refine ⟨fun i s t h hne => ?_, fun s t h hne => ?_⟩
  · obtain ⟨r, hmem, hshows⟩ := shows_of_answersFrom (exec_answers h) hne
    cases i with
    | plan d =>
      obtain rfl := List.mem_singleton.mp hmem
      cases hp : plan s.fCpu d <;> simpa [planAnswer, hp, State.Shows, noData] using hshows
    | _ =>
      obtain ⟨code, -, rfl⟩ := List.mem_map.mp hmem
      exact hshows.2
  · obtain ⟨r, hmem, hshows⟩ := shows_of_answersFrom (illegalCommand_answers h) hne
    obtain rfl := List.mem_singleton.mp hmem
    exact hshows

/-- Settles O4: the decoder evaluated on each word. -/
theorem sampleWordsDecode : Obligations.SampleWordsDecode := by
  unfold Obligations.SampleWordsDecode
  decide

/-- Settles O6: the assembler evaluated on each line. -/
theorem sampleLinesAssemble : Obligations.SampleLinesAssemble := by
  unfold Obligations.SampleLinesAssemble
  decide

end Sys2Proof.Machine
end

section
/-! SUPPORT. The calculator's prescaler by the delay's range, its counts as quotients of the exact product, and PLAN's
answer (statements of 40_delay_calculator.md). -/

namespace Sys2Proof.Machine

/-! ## The prescaler (R92) -/

theorem selectPsc_of_le_256 {d : Nat} (h : d ≤ 256) : selectPsc d = 2#3 := if_pos h

theorem selectPsc_of_le_2048 {d : Nat} (hlo : 256 < d) (hhi : d ≤ 2048) : selectPsc d = 3#3 := by
  unfold selectPsc Config.thrA Config.thrB
  rw [if_neg (not_le.mpr hlo), if_pos hhi]

theorem selectPsc_of_le_8192 {d : Nat} (hlo : 2048 < d) (hhi : d ≤ 8192) : selectPsc d = 4#3 := by
  unfold selectPsc Config.thrA Config.thrB Config.thrC
  rw [if_neg (by omega), if_neg (not_le.mpr hlo), if_pos hhi]

theorem selectPsc_of_gt_8192 {d : Nat} (h : 8192 < d) : selectPsc d = 5#3 := by
  unfold selectPsc Config.thrA Config.thrB Config.thrC
  rw [if_neg (by omega), if_neg (by omega), if_neg (not_le.mpr h)]

/-- R92's table, one row per range of the delay, names the divisor of the selected prescaler. -/
theorem eq_selected_divisor {d div : Nat}
    (h : if d ≤ 256 then div = 8 else if d ≤ 2048 then div = 64 else if d ≤ 8192 then div = 256 else div = 1024) :
    div = (divisorOf (selectPsc d)).toNat := by
  rw [selectPsc_divisor]
  split_ifs at h ⊢ <;> exact h

/-- R92's table with the CS codes names the selected code beside its divisor. -/
theorem eq_selected_code_and_divisor {d div : Nat} {code : PscCode}
    (h : if d ≤ 256 then code = 2#3 ∧ div = 8 else if d ≤ 2048 then code = 3#3 ∧ div = 64
      else if d ≤ 8192 then code = 4#3 ∧ div = 256 else code = 5#3 ∧ div = 1024) :
    code = selectPsc d ∧ div = (divisorOf (selectPsc d)).toNat := by
  split_ifs at h with h256 h2048 h8192 <;> obtain ⟨rfl, rfl⟩ := h
  · rw [selectPsc_of_le_256 h256]
    exact ⟨rfl, rfl⟩
  · rw [selectPsc_of_le_2048 (not_le.mp h256) h2048]
    exact ⟨rfl, rfl⟩
  · rw [selectPsc_of_le_8192 (not_le.mp h2048) h8192]
    exact ⟨rfl, rfl⟩
  · rw [selectPsc_of_gt_8192 (not_le.mp h8192)]
    exact ⟨rfl, rfl⟩

/-! ## The counts (R93 to R97) -/

theorem planTicks_eq (f : BitVec 32) (d : Nat) :
    planTicks f d = d * (f.toNat / (divisorOf (selectPsc d)).toNat) / 1000000 := rfl

theorem planMax_eq (f : BitVec 32) (d : Nat) :
    planMax f d = d * (f.toNat / (divisorOf (selectPsc d)).toNat) / 256000000 := rfl

theorem planLast_eq (f : BitVec 32) (d : Nat) : planLast f d = (planTicks f d - planMax f d * 256) % 256 := rfl

/-- The nested floors of R96: the full overflow periods are the whole delay in ticks over 256. -/
theorem planMax_eq_planTicks_div (f : BitVec 32) (d : Nat) : planMax f d = planTicks f d / 256 := by
  rw [planMax_eq, planTicks_eq, Nat.div_div_eq_div_mul]

/-- The last partial count is the rest of that division, so R95's narrowing loses nothing (R96). -/
theorem planLast_eq_planTicks_mod (f : BitVec 32) (d : Nat) : planLast f d = planTicks f d % 256 := by
  rw [planLast_eq, planMax_eq_planTicks_div]
  omega

theorem planMax_mul_add_planLast (f : BitVec 32) (d : Nat) : planMax f d * 256 + planLast f d = planTicks f d := by
  rw [planMax_eq_planTicks_div, planLast_eq_planTicks_mod]
  exact Nat.div_add_mod' _ _

/-- The product needs at most 86 bits (R96). -/
theorem planProduct_lt (f : BitVec 32) {d : Nat} (hd : d < 2 ^ 64) : planProduct f d < 2 ^ 86 :=
  (planProduct_le f hd).trans_lt (by norm_num)

/-- MAX_OVF's 64 bits hold the whole quotient. -/
theorem plan_maxOvf_toNat {f : BitVec 32} {d : Delay} {p : Plan} (h : plan f d = some p) :
    p.maxOvf.toNat = planMax f d.toNat := by
  have hle := planMax_le f d.isLt
  rw [eq_of_plan_eq_some h]
  exact Nat.mod_eq_of_lt (by omega)

/-- LAST_TICKS's 8 bits hold the whole rest. -/
theorem plan_lastTicks_toNat {f : BitVec 32} {d : Delay} {p : Plan} (h : plan f d = some p) :
    p.lastTicks.toNat = planLast f d.toNat := by
  rw [eq_of_plan_eq_some h]
  exact Nat.mod_mod _ _

theorem plan_psc {f : BitVec 32} {d : Delay} {p : Plan} (h : plan f d = some p) : p.psc = selectPsc d.toNat := by
  rw [eq_of_plan_eq_some h]

/-- On the 8-bit output the last count is the whole delay in ticks, narrowed. -/
theorem ofNat_planLast (f : BitVec 32) (d : Nat) : BitVec.ofNat 8 (planLast f d) = BitVec.ofNat 8 (planTicks f d) := by
  rw [planLast_eq_planTicks_mod]
  exact BitVec.eq_of_toNat_eq (Nat.mod_mod _ _)

/-! ## PLAN (R99) -/

theorem execPlan_of_ready {s : State} {d : Delay} (h : s.Ready) (hd : d ≠ 0#64) :
    execPlan d s = .next (s.respondPlan (selectPsc d.toNat) (BitVec.ofNat 64 (planMax s.fCpu d.toNat))
      (BitVec.ofNat 8 (planTicks s.fCpu d.toNat))) := by
  unfold execPlan
  rw [hostCommand_of_ready h, plan_of_ne hd, ofNat_planLast]

/-! ## The statements -/

/-- Settles O32: no count of the plan is narrowed, and the divisor is that of the selected prescaler. -/
theorem planCountsAreExactQuotients : Obligations.PlanCountsAreExactQuotients := by
  intro f d p div h hdiv
  obtain rfl := eq_selected_divisor hdiv
  exact ⟨plan_maxOvf_toNat h, plan_lastTicks_toNat h⟩

/-- Settles O33: the counts are quotient and rest of one division by 256. -/
theorem planAccountsForEveryTick : Obligations.PlanAccountsForEveryTick := by
  intro f d p h
  rw [plan_maxOvf_toNat h, plan_lastTicks_toNat h, plan_psc h]
  have hbound : planMax f d.toNat < 2 ^ 59 := plan_maxOvf_toNat h ▸ plan_maxOvf_lt h
  exact ⟨planMax_mul_add_planLast f d.toNat, planProduct_lt f d.isLt, planMax_le f d.isLt, hbound⟩

/-- Settles O34: a ready state runs the command, which answers with the calculator's plan. -/
theorem planShowsThePlan : Obligations.PlanShowsThePlan := by
  intro d s code div hready hd hsel
  obtain ⟨rfl, rfl⟩ := eq_selected_code_and_divisor hsel
  rw [← planMax_eq, ← planTicks_eq]
  exact execPlan_of_ready hready hd

/-- Settles O30: a non-zero delay has the calculator's plan. -/
theorem onlyZeroDelayHasNoPlan : Obligations.OnlyZeroDelayHasNoPlan := by
  intro f d
  constructor
  · intro hnone
    by_contra hd
    simp [plan_of_ne hd] at hnone
  · rintro rfl
    exact plan_zero f

/-- Settles O31, range by range; the divisor is R29's for the selected code. -/
theorem prescalerFollowsTheThresholds : Obligations.PrescalerFollowsTheThresholds := by
  intro f d p h
  rw [plan_psc h]
  refine ⟨fun hhi => ?_, fun hlo hhi => ?_, fun hlo hhi => ?_, fun hlo => ?_⟩
  · rw [selectPsc_of_le_256 hhi]
    exact ⟨rfl, rfl⟩
  · rw [selectPsc_of_le_2048 hlo hhi]
    exact ⟨rfl, rfl⟩
  · rw [selectPsc_of_le_8192 hlo hhi]
    exact ⟨rfl, rfl⟩
  · rw [selectPsc_of_gt_8192 hlo]
    exact ⟨rfl, rfl⟩

end Sys2Proof.Machine
end

section
/-! SUPPORT. What each command answers at a ready state, the counter clock's TICKs up to the next overflow, the polled
countdown overflow by overflow, and the derived state (statements of 41_state_machine.md). -/

namespace Sys2Proof.Machine

/-! ## Enabling of the host's commands (R110, R187) -/

/-- A ready state runs every command of the host to a next state. -/
theorem exec_command_of_ready {i : Instr} {s : State} (hi : i.isCommand = true) (h : s.Ready) :
    ∃ t, exec i s = .next t := by
  cases i with
  | init => unfold exec execInit; exact ⟨_, hostCommand_of_ready h _⟩
  | start => unfold exec execStart; exact ⟨_, hostCommand_of_ready h _⟩
  | stop => unfold exec execStop; exact ⟨_, hostCommand_of_ready h _⟩
  | getStatus => unfold exec execGetStatus; exact ⟨_, hostCommand_of_ready h _⟩
  | plan => unfold exec execPlan; exact ⟨_, hostCommand_of_ready h _⟩
  | tick | ovfIsr => cases hi

/-- Of the two cases of an inversion lemma for a command, held and carried out, the second is left where no interrupt
is pending. -/
theorem of_not_held {s : State} {held carried : Prop} (hp : s.irqPending = false)
    (h : s.irqPending = true ∧ held ∨ s.irqPending = false ∧ carried) : carried := by
  rcases h with ⟨hpend, -⟩ | ⟨-, hcarried⟩
  · exact absurd hpend (ne_true_of_eq_false hp)
  · exact hcarried

/-- One answer holds one next state. -/
theorem next_unique {r : StepResult} {t u : State} (ht : r = .next t) (hu : r = .next u) : u = t := by
  cases ht
  cases hu
  rfl

/-! ## INIT (R112) -/

theorem invalidMode_eq_true_iff (mode : BitVec 8) : invalidMode mode = true ↔ 3 < mode.toNat :=
  decide_eq_true_iff

theorem invalidPsc_eq_true_iff (psc : BitVec 8) : invalidPsc psc = true ↔ 7 < psc.toNat :=
  decide_eq_true_iff

theorem invalidMode_eq_false_iff (mode : BitVec 8) : invalidMode mode = false ↔ mode.toNat ≤ 3 := by
  rw [← Bool.not_eq_true, invalidMode_eq_true_iff, not_lt]

theorem invalidPsc_eq_false_iff (psc : BitVec 8) : invalidPsc psc = false ↔ psc.toNat ≤ 7 := by
  rw [← Bool.not_eq_true, invalidPsc_eq_true_iff, not_lt]

theorem execInit_of_valid {s : State} {mode psc : BitVec 8} (h : s.Ready) (hm : mode.toNat ≤ 3) (hp : psc.toNat ≤ 7) :
    execInit mode psc s = .next ((s.initEffect (modeCode mode) (pscCode psc)).respond .ok) := by
  unfold execInit
  rw [hostCommand_of_ready h, (invalidMode_eq_false_iff mode).mpr hm, (invalidPsc_eq_false_iff psc).mpr hp]
  rfl

/-- R29's divisors as a table over the eight CS codes. -/
theorem divisorOf_eq_table (cs : PscCode) :
    divisorOf cs = BitVec.ofNat 11 ([0, 1, 8, 64, 256, 1024, 0, 0].getD cs.toNat 0) := by
  revert cs
  decide

theorem modeCode_eq_ofNat (mode : BitVec 8) : modeCode mode = BitVec.ofNat 2 mode.toNat :=
  (BitVec.ofNat_toNat 2 mode).symm

theorem pscCode_eq_ofNat (psc : BitVec 8) : pscCode psc = BitVec.ofNat 3 psc.toNat :=
  (BitVec.ofNat_toNat 3 psc).symm

theorem pscCode_toNat {psc : BitVec 8} (h : psc.toNat ≤ 7) : (pscCode psc).toNat = psc.toNat := by
  rw [pscCode_eq_ofNat, BitVec.toNat_ofNat]
  omega

/-! ## START (R113, R114) -/

theorem execStart_of_plan {s : State} {cbp : Bool} {d : Delay} {tok : Token} {p : Plan} (h : s.Ready)
    (hp : plan s.fCpu d = some p) (hsrc : cbp = true ∨ s.toie = false ∧ s.ocie = false) :
    execStart cbp d tok s = .next ((s.startEffect p cbp d tok).respond .ok) := by
  have hcb : (s.sourceEnabled && !cbp) = false := by
    rcases hsrc with hcbp | ⟨htoie, hocie⟩
    · simp [hcbp]
    · simp [State.sourceEnabled, htoie, hocie]
  unfold execStart
  rw [hostCommand_of_ready h, hp]
  simp [hcb]

theorem reload_ofNat {l : Nat} (h : l < 256) : reload (BitVec.ofNat 8 l) = BitVec.ofNat 8 ((256 - l) % 256) := by
  unfold reload
  rw [BitVec.toNat_ofNat, Nat.mod_eq_of_lt (by omega : l < 2 ^ 8)]

/-- MAX_OVF's 64 bits are 0 only for a plan without a full overflow period. -/
theorem ofNat_planMax_eq_zero_iff (f : BitVec 32) {d : Nat} (hd : d < 2 ^ 64) :
    BitVec.ofNat 64 (planMax f d) = 0#64 ↔ planMax f d = 0 := by
  have hle := planMax_le f hd
  rw [← BitVec.toNat_inj, BitVec.toNat_ofNat, Nat.mod_eq_of_lt (by omega)]
  rfl

/-- The first count of a START, from the counts of its plan as numbers. -/
theorem firstCount_eq (f : BitVec 32) {d : Nat} (hd : d < 2 ^ 64) :
    (if BitVec.ofNat 64 (planMax f d) = 0#64 then reload (BitVec.ofNat 8 (planLast f d)) else 0#8) =
      if planMax f d = 0 then BitVec.ofNat 8 ((256 - planLast f d) % 256) else 0#8 := by
  have hlast : planLast f d < 256 := Nat.mod_lt _ (by decide)
  rw [reload_ofNat hlast]
  exact if_congr (ofNat_planMax_eq_zero_iff f hd) rfl rfl

/-! ## STOP (R115, R116) -/

theorem execStop_of_ready {s : State} (h : s.Ready) : execStop s = .next (s.stopEffect.respond .ok) :=
  hostCommand_of_ready h _

theorem irqPending_of_tov_false {s : State} (h : s.tov = false) : s.irqPending = false := by
  simp [State.irqPending, h]

theorem irqPending_of_gie_false {s : State} (h : s.gie = false) : s.irqPending = false := by
  simp [State.irqPending, h]

theorem ready_stopped {s : State} (h : s.Live) (code : RespCode) : (s.stopEffect.respond code).Ready :=
  ⟨h, irqPending_of_tov_false rfl⟩

/-- A second Stop effect finds every register it writes as it leaves it. -/
theorem stopEffect_stopped (s : State) (code : RespCode) :
    (s.stopEffect.respond code).stopEffect = s.stopEffect.respond code := rfl

/-! ## GETSTATUS (R117) -/

section GetStatus
variable {s : State}

theorem execGetStatus_of_path_live (h : s.Ready) (hpath : s.interruptPathLive = true) :
    execGetStatus s = .next (s.raise .mixedPolledInterrupt) := by
  unfold execGetStatus
  rw [hostCommand_of_ready h, hpath]
  rfl

theorem execGetStatus_of_no_overflow (h : s.Ready) (hpath : s.interruptPathLive = false) (htov : s.tov = false) :
    execGetStatus s = .next (s.respond .running) := by
  unfold execGetStatus
  rw [hostCommand_of_ready h, hpath, htov]
  rfl

theorem execGetStatus_of_lt (h : s.Ready) (hpath : s.interruptPathLive = false) (htov : s.tov = true)
    (hlt : s.curOvf < s.maxOvf) : execGetStatus s = .next (s.consumeFull.respond .running) := by
  unfold execGetStatus
  rw [hostCommand_of_ready h]
  simp [hpath, htov, countOverflow_of_lt hlt]

theorem execGetStatus_of_eq (h : s.Ready) (hpath : s.interruptPathLive = false) (htov : s.tov = true)
    (heq : s.curOvf = s.maxOvf) : execGetStatus s = .next (s.loadCompensating.respond .running) := by
  unfold execGetStatus
  rw [hostCommand_of_ready h]
  simp [hpath, htov, countOverflow_of_eq heq]

theorem execGetStatus_of_gt (h : s.Ready) (hpath : s.interruptPathLive = false) (htov : s.tov = true)
    (hgt : s.maxOvf < s.curOvf) : execGetStatus s = .next (s.emitIfPresent.stopEffect.respond .expired) := by
  unfold execGetStatus
  rw [hostCommand_of_ready h]
  simp [hpath, htov, countOverflow_of_gt hgt]

end GetStatus

/-- The callback of the polled expiry as one write of the event stream. -/
theorem emitIfPresent_eq (s : State) :
    s.emitIfPresent = { s with events := s.events ++ (if s.cbPresent = true then [s.cbToken] else []) } := by
  by_cases hc : s.cbPresent = true
  · rw [emitIfPresent_full hc, if_pos hc]
    rfl
  · rw [emitIfPresent_empty (eq_false_of_ne_true hc), if_neg hc, List.append_nil]

theorem interruptPathLive_eq_true_iff (s : State) :
    s.interruptPathLive = true ↔ s.gie = true ∧ s.toie = true := by
  simp [State.interruptPathLive]

/-! ## One response for each command (R110) -/

/-- From `s` to `t` one response is given, and `t` has no mark. -/
def State.RespondsOnce (s t : State) : Prop := (∃ r, t.responses = s.responses ++ [r]) ∧ t.Live

theorem execInit_respondsOnce {mode psc : BitVec 8} {s t : State} (h : s.Ready) (ht : execInit mode psc s = .next t) :
    s.RespondsOnce t := by
  obtain ⟨-, rfl⟩ | ⟨-, -, rfl⟩ | ⟨-, -, rfl⟩ := of_not_held h.2 (execInit_next ht).2
  all_goals exact ⟨⟨_, rfl⟩, h.1⟩

theorem execStart_respondsOnce {cbp : Bool} {d : Delay} {tok : Token} {s t : State} (h : s.Ready)
    (ht : execStart cbp d tok s = .next t) : s.RespondsOnce t := by
  obtain ⟨-, rfl⟩ | ⟨p, -, ⟨-, rfl⟩ | ⟨-, rfl⟩⟩ := of_not_held h.2 (execStart_next ht).2
  all_goals exact ⟨⟨_, rfl⟩, h.1⟩

theorem execStop_respondsOnce {s t : State} (h : s.Ready) (ht : execStop s = .next t) : s.RespondsOnce t := by
  obtain rfl := of_not_held h.2 (execStop_next ht).2
  exact ⟨⟨_, rfl⟩, h.1⟩

theorem execPlan_respondsOnce {d : Delay} {s t : State} (h : s.Ready) (ht : execPlan d s = .next t) :
    s.RespondsOnce t := by
  obtain ⟨-, rfl⟩ | ⟨p, -, rfl⟩ := of_not_held h.2 (execPlan_next ht).2
  all_goals exact ⟨⟨_, rfl⟩, h.1⟩

/-- GETSTATUS is the one command that can end without a response, by the mixing fault (R180). -/
theorem execGetStatus_respondsOnce_or_faults {s t : State} (h : s.Ready) (ht : execGetStatus s = .next t) :
    s.RespondsOnce t ∨ s.interruptPathLive = true ∧ t = s.raise .mixedPolledInterrupt := by
  obtain hfault | ⟨-, ⟨-, rfl⟩ | ⟨-, -, rfl⟩ | ⟨-, -, rfl⟩ | ⟨-, -, rfl⟩⟩ := of_not_held h.2 (execGetStatus_next ht).2
  · exact .inr hfault
  · exact .inl ⟨⟨_, rfl⟩, h.1⟩
  · exact .inl ⟨⟨_, rfl⟩, h.1⟩
  · exact .inl ⟨⟨_, rfl⟩, h.1⟩
  · rw [emitIfPresent_eq]
    exact .inl ⟨⟨_, rfl⟩, h.1⟩

/-! ## TICKs up to the next overflow (R114, R141) -/

theorem compareLive_eq_false {s : State} (h : s.ocie = false ∨ s.gie = false) : s.compareLive = false := by
  rcases h with hocie | hgie
  · simp [State.compareLive, hocie]
  · simp [State.compareLive, hgie]

theorem execTick_of_counting {s : State} (h : s.Counting) : execTick s = .next s.count := by
  obtain ⟨hl, hcs, hwgm, hcmp⟩ := h
  unfold execTick
  rw [unlessMarked_of_live hl]
  simp [State.clockRuns, hcs, hwgm, compareLive_eq_false hcmp]

theorem count_of_ne_full {s : State} (h : s.tcnt ≠ 255#8) : s.count = { s with tcnt := s.tcnt + 1#8 } := by
  simp [State.count, tovAfterCount, h]

theorem count_of_full {s : State} (h : s.tcnt = 255#8) : s.count = { s with tcnt := 0#8, tov := true } := by
  simp [State.count, tovAfterCount, h]

theorem andThen_assoc (first : StepResult) (f g : State → StepResult) :
    andThen (andThen first f) g = andThen first fun t => andThen (f t) g := by
  cases first <;> rfl

theorem tickTimes_add (m n : Nat) (s : State) : tickTimes (m + n) s = andThen (tickTimes m s) (tickTimes n) := by
  induction m generalizing s with
  | zero => simp
  | succ m ih =>
    have hfun : tickTimes (m + n) = fun t => andThen (tickTimes m t) (tickTimes n) := funext ih
    rw [Nat.add_right_comm, tickTimes_succ, tickTimes_succ, andThen_assoc, hfun]

theorem tickTimes_one (s : State) : tickTimes 1 s = exec .tick s := by
  rw [tickTimes_succ]
  cases exec .tick s <;> rfl

/-- TICKs that do not reach the wrap write TCNT alone. -/
theorem tickTimes_below_wrap {n : Nat} {s : State} (h : s.Counting) (hn : s.tcnt.toNat + n < 256) :
    tickTimes n s = .next { s with tcnt := s.tcnt + BitVec.ofNat 8 n } := by
  induction n with
  | zero => simp
  | succ n ih =>
    have hne : s.tcnt + BitVec.ofNat 8 n ≠ 255#8 := by bv_omega
    have hstep : execTick { s with tcnt := s.tcnt + BitVec.ofNat 8 n } = .next _ := execTick_of_counting h
    rw [tickTimes_add, ih (by omega), andThen_next, tickTimes_one, exec_tick, hstep, count_of_ne_full hne]
    simp only [BitVec.add_assoc, BitVec.ofNat_add]

/-- The overflow comes with the TICK that wraps the count, whatever TOV was. -/
theorem tickTimes_to_wrap {s : State} (h : s.Counting) :
    tickTimes (256 - s.tcnt.toNat) s = .next { s with tcnt := 0#8, tov := true } := by
  have hlt := s.tcnt.isLt
  have hfull : s.tcnt + BitVec.ofNat 8 (255 - s.tcnt.toNat) = 255#8 := by bv_omega
  have hsplit : 256 - s.tcnt.toNat = 255 - s.tcnt.toNat + 1 := by omega
  have hstep : execTick { s with tcnt := 255#8 } = .next _ := execTick_of_counting h
  rw [hsplit, tickTimes_add, tickTimes_below_wrap h (by omega), andThen_next, tickTimes_one, hfull, exec_tick, hstep,
    count_of_full rfl]

/-- P(L), the TICKs from `reload(L)` to the wrap (R114, R145). -/
theorem wrap_distance_reload (l : Count8) : 256 - (reload l).toNat = partialPeriod l := by
  have hlt := l.isLt
  rw [reload_toNat]
  unfold partialPeriod
  split
  · simp [*]
  · bv_omega

/-! ## The polled countdown (R118) -/

/-- The overflow at the count `c` that `overflowsThen` puts before each step. -/
def State.overflowed (s : State) (c : Count8) : State := { s with tcnt := c, tov := true }

theorem overflowsThen_cons_overflowed (i : Instr) (c : Count8) (cs : List Count8) (s : State) :
    overflowsThen i (c :: cs) s = andThen (exec i (s.overflowed c)) (overflowsThen i cs) := rfl

theorem overflowsThen_singleton (i : Instr) (c : Count8) (s : State) :
    overflowsThen i [c] s = exec i (s.overflowed c) := by
  rw [overflowsThen_cons_overflowed]
  cases exec i (s.overflowed c) <;> rfl

theorem overflowsThen_append (i : Instr) (cs ds : List Count8) (s : State) :
    overflowsThen i (cs ++ ds) s = andThen (overflowsThen i cs s) (overflowsThen i ds) := by
  induction cs generalizing s with
  | nil => simp
  | cons c cs ih =>
    have hfun : overflowsThen i (cs ++ ds) = fun t => andThen (overflowsThen i cs t) (overflowsThen i ds) := funext ih
    rw [List.cons_append, overflowsThen_cons, overflowsThen_cons, andThen_assoc, hfun]

/-- The host polls: no mark, GIE = 0, and no overflow left to consume. -/
structure State.Polled (s : State) : Prop where
  live : s.Live
  gie : s.gie = false
  tov : s.tov = false

/-- The state after `n` overflows of a polled countdown that has not expired, with the count at `c`.
`overflowsThen_getStatus_running` ties it to the model. -/
def State.afterOverflows (s : State) (n : Nat) (c : Count8) : State :=
  { s with
    tcnt := c
    curOvf := s.curOvf + BitVec.ofNat 64 n
    responses := s.responses ++ List.replicate n (noData .running) }

theorem afterOverflows_zero (s : State) : s.afterOverflows 0 s.tcnt = s := by
  simp [State.afterOverflows]

theorem afterOverflows_one_then (s : State) (n : Nat) (b c : Count8) :
    (s.afterOverflows 1 b).afterOverflows n c = s.afterOverflows (n + 1) c := by
  have hcur : s.curOvf + 1#64 + BitVec.ofNat 64 n = s.curOvf + BitVec.ofNat 64 (n + 1) := by bv_omega
  simp [State.afterOverflows, hcur, List.replicate_succ]

theorem afterOverflows_curOvf_toNat {s : State} {n : Nat} (hmax : s.maxOvf.toNat < 2 ^ 59)
    (hn : s.curOvf.toNat + n ≤ s.maxOvf.toNat + 1) (c : Count8) :
    (s.afterOverflows n c).curOvf.toNat = s.curOvf.toNat + n := by
  have hadd : (s.curOvf + BitVec.ofNat 64 n).toNat = s.curOvf.toNat + n := by bv_omega
  exact hadd

theorem polled_afterOverflows {s : State} (h : s.Polled) (n : Nat) (c : Count8) : (s.afterOverflows n c).Polled :=
  ⟨h.live, h.gie, h.tov⟩

/-- A polling host's GETSTATUS is enabled when it meets an overflow. -/
theorem ready_overflowed {s : State} (h : s.Polled) (c : Count8) : (s.overflowed c).Ready :=
  ⟨h.live, irqPending_of_gie_false h.gie⟩

/-- A polling host does not mix the paths. -/
theorem interruptPathLive_overflowed {s : State} (h : s.Polled) (c : Count8) :
    (s.overflowed c).interruptPathLive = false :=
  interruptPathLive_eq_false (.inl h.gie)

/-- One overflow before expiry. -/
theorem execGetStatus_running {s : State} (h : s.Polled) (hle : s.curOvf.toNat ≤ s.maxOvf.toNat) (c : Count8) :
    ∃ b, execGetStatus (s.overflowed c) = .next (s.afterOverflows 1 b) := by
  have hready := ready_overflowed h c
  have hpath := interruptPathLive_overflowed h c
  rcases Nat.lt_or_eq_of_le hle with hlt | heq
  · refine ⟨c, (execGetStatus_of_lt hready hpath rfl (BitVec.lt_def.mpr hlt)).trans ?_⟩
    simp [State.overflowed, State.consumeFull, State.respond, State.afterOverflows, noData, h.tov]
  · refine ⟨reload s.lastTicks, (execGetStatus_of_eq hready hpath rfl (BitVec.eq_of_toNat_eq heq)).trans ?_⟩
    simp [State.overflowed, State.loadCompensating, State.respond, State.afterOverflows, noData, h.tov]

/-- Up to MAX_OVF + 1 overflows in all, each is answered RUNNING, at whatever count it is met. -/
theorem overflowsThen_getStatus_running {cs : List Count8} {s : State} (h : s.Polled) (hmax : s.maxOvf.toNat < 2 ^ 59)
    (hlen : s.curOvf.toNat + cs.length ≤ s.maxOvf.toNat + 1) :
    ∃ c, overflowsThen .getStatus cs s = .next (s.afterOverflows cs.length c) := by
  induction cs generalizing s with
  | nil => exact ⟨s.tcnt, by simp [afterOverflows_zero]⟩
  | cons c cs ih =>
    rw [List.length_cons] at hlen
    obtain ⟨b, hfirst⟩ := execGetStatus_running h (by omega) c
    have hcur := afterOverflows_curOvf_toNat hmax (by omega : s.curOvf.toNat + 1 ≤ _) b
    have hlen' : (s.afterOverflows 1 b).curOvf.toNat + cs.length ≤ s.maxOvf.toNat + 1 := by omega
    obtain ⟨d, hrest⟩ := ih (polled_afterOverflows h 1 b) hmax hlen'
    refine ⟨d, ?_⟩
    rw [overflowsThen_cons_overflowed, exec_getStatus, hfirst, andThen_next, hrest, afterOverflows_one_then,
      List.length_cons]

/-- From the first count to expiry: MAX_OVF + 1 overflows are answered RUNNING, and the next one EXPIRED. -/
theorem overflowsThen_getStatus_expired {cs : List Count8} {s : State} (h : s.Polled) (hcur : s.curOvf = 0#64)
    (hmax : s.maxOvf.toNat < 2 ^ 59) (hlen : cs.length = s.maxOvf.toNat + 2) :
    ∃ b c, overflowsThen .getStatus cs s = .next
      (((s.afterOverflows (s.maxOvf.toNat + 1) b).overflowed c).emitIfPresent.stopEffect.respond .expired) := by
  obtain ⟨ds, c, rfl⟩ : ∃ ds c, cs = ds ++ [c] :=
    (List.eq_nil_or_concat' cs).resolve_left (by rintro rfl; cases hlen)
  have hds : ds.length = s.maxOvf.toNat + 1 := by simpa using hlen
  have hzero : s.curOvf.toNat = 0 := by rw [hcur]; rfl
  obtain ⟨b, hrun⟩ := overflowsThen_getStatus_running h hmax (by omega : s.curOvf.toNat + ds.length ≤ _)
  rw [hds] at hrun
  have hpast := afterOverflows_curOvf_toNat hmax (by omega : s.curOvf.toNat + (s.maxOvf.toNat + 1) ≤ _) b
  have hgt : s.maxOvf.toNat < (s.afterOverflows (s.maxOvf.toNat + 1) b).curOvf.toNat := by omega
  have hp := polled_afterOverflows h (s.maxOvf.toNat + 1) b
  refine ⟨b, c, ?_⟩
  rw [overflowsThen_append, hrun, andThen_next, overflowsThen_singleton, exec_getStatus]
  exact execGetStatus_of_gt (ready_overflowed hp c) (interruptPathLive_overflowed hp c) rfl (BitVec.lt_def.mpr hgt)

/-! ## OVF_ISR (R143, R144) -/

section OvfIsr
variable {s : State}

theorem execOvfIsr_of_not_pending (hl : s.Live) (hp : s.irqPending = false) : execOvfIsr s = .next s := by
  unfold execOvfIsr
  rw [unlessMarked_of_live hl, hp]
  rfl

/-- The shared counting logic does not read the flag that the entry clears, and clears it itself. -/
theorem enterInterrupt_countOverflow (s : State) : s.enterInterrupt.countOverflow = s.countOverflow := rfl

theorem execOvfIsr_of_lt (hl : s.Live) (hp : s.irqPending = true) (hlt : s.curOvf < s.maxOvf) :
    execOvfIsr s = .next s.consumeFull := by
  unfold execOvfIsr
  rw [unlessMarked_of_live hl, enterInterrupt_countOverflow]
  simp [hp, countOverflow_of_lt hlt, State.returnFromInterrupt]

theorem execOvfIsr_of_eq (hl : s.Live) (hp : s.irqPending = true) (heq : s.curOvf = s.maxOvf) :
    execOvfIsr s = .next s.loadCompensating := by
  unfold execOvfIsr
  rw [unlessMarked_of_live hl, enterInterrupt_countOverflow]
  simp [hp, countOverflow_of_eq heq, State.returnFromInterrupt]

theorem execOvfIsr_of_gt_full (hl : s.Live) (hp : s.irqPending = true) (hgt : s.maxOvf < s.curOvf)
    (hcb : s.cbPresent = true) : execOvfIsr s = .next s.enterInterrupt.expireInterrupt := by
  unfold execOvfIsr
  rw [unlessMarked_of_live hl, enterInterrupt_countOverflow]
  simp [hp, countOverflow_of_gt hgt, hcb, State.returnFromInterrupt]

theorem execOvfIsr_of_gt_empty (hl : s.Live) (hp : s.irqPending = true) (hgt : s.maxOvf < s.curOvf)
    (hcb : s.cbPresent = false) : execOvfIsr s = .next (s.raise .nullCallbackInInterrupt) := by
  unfold execOvfIsr
  rw [unlessMarked_of_live hl, enterInterrupt_countOverflow]
  simp [hp, countOverflow_of_gt hgt, hcb]

end OvfIsr

/-! ## The derived state (R130, R131) -/

theorem phase_eq_stopped_iff (s : State) : s.phase = some .stopped ↔ s.running = false := by
  unfold State.phase
  split_ifs <;> simp_all

theorem phase_eq_armed_iff (s : State) :
    s.phase = some .armed ↔ s.running = true ∧ s.curOvf.toNat ≤ s.maxOvf.toNat := by
  unfold State.phase
  split_ifs <;> simp_all

theorem phase_eq_compensating_iff (s : State) :
    s.phase = some .compensating ↔ s.running = true ∧ s.curOvf.toNat = s.maxOvf.toNat + 1 := by
  unfold State.phase
  split_ifs <;> simp_all
  omega

@[simp] theorem phase_respond (s : State) (code : RespCode) : (s.respond code).phase = s.phase := rfl

theorem phase_stopEffect (s : State) : s.stopEffect.phase = some .stopped := rfl

theorem phase_startEffect (s : State) (p : Plan) (cbp : Bool) (d : Delay) (tok : Token) :
    (s.startEffect p cbp d tok).phase = some .armed :=
  (phase_eq_armed_iff _).mpr ⟨rfl, Nat.zero_le _⟩

theorem phase_consumeFull {s : State} (hph : s.phase = some .armed) (hlt : s.curOvf.toNat < s.maxOvf.toNat) :
    s.consumeFull.phase = some .armed := by
  obtain ⟨hrun, -⟩ := (phase_eq_armed_iff s).mp hph
  have hle : (s.curOvf + 1#64).toNat ≤ s.maxOvf.toNat := by bv_omega
  exact (phase_eq_armed_iff _).mpr ⟨hrun, hle⟩

theorem phase_loadCompensating {s : State} (hinv : s.Inv) (hph : s.phase = some .armed) (heq : s.curOvf = s.maxOvf) :
    s.loadCompensating.phase = some .compensating := by
  obtain ⟨hrun, -⟩ := (phase_eq_armed_iff s).mp hph
  obtain ⟨-, hmax, -⟩ := hinv
  have hsucc : (s.curOvf + 1#64).toNat = s.maxOvf.toNat + 1 := by bv_omega
  exact (phase_eq_compensating_iff _).mpr ⟨hrun, hsucc⟩

theorem phase_expireInterrupt {s : State} (hrun : s.running = true) :
    s.enterInterrupt.expireInterrupt.phase = some .armed :=
  (phase_eq_armed_iff _).mpr ⟨hrun, Nat.zero_le _⟩

theorem lt_of_phase_compensating {s : State} (h : s.phase = some .compensating) : s.maxOvf < s.curOvf := by
  obtain ⟨-, hcur⟩ := (phase_eq_compensating_iff s).mp h
  exact BitVec.lt_def.mpr (by omega)

theorem execInit_phase {mode psc : BitVec 8} {s t : State} (hp : s.irqPending = false)
    (h : execInit mode psc s = .next t) :
    t.phase = if mode.toNat ≤ 3 ∧ psc.toNat ≤ 7 then some .stopped else s.phase := by
  simp only [← invalidMode_eq_false_iff, ← invalidPsc_eq_false_iff]
  obtain ⟨hm, rfl⟩ | ⟨-, hs, rfl⟩ | ⟨hm, hs, rfl⟩ := of_not_held hp (execInit_next h).2
  · simp [hm]
  · simp [hs]
  · simp only [hm, hs, and_self, if_true]
    rfl

theorem execStart_phase {cbp : Bool} {d : Delay} {tok : Token} {s t : State} (hp : s.irqPending = false)
    (h : execStart cbp d tok s = .next t) :
    t.phase = if d ≠ 0#64 ∧ (cbp = true ∨ s.toie = false ∧ s.ocie = false) then some .armed else s.phase := by
  have hsrc : (cbp = true ∨ s.toie = false ∧ s.ocie = false) ↔ ¬ (s.sourceEnabled = true ∧ cbp = false) := by
    cases cbp <;> simp [State.sourceEnabled]
  simp only [hsrc, ne_eq, ← onlyZeroDelayHasNoPlan s.fCpu d]
  obtain ⟨hd, rfl⟩ | ⟨p, hd, ⟨hcb, rfl⟩ | ⟨hcb, rfl⟩⟩ := of_not_held hp (execStart_next h).2
  · simp [hd]
  · simp [hcb]
  · rw [if_pos ⟨by simp [hd], hcb⟩, phase_respond, phase_startEffect]

theorem execStop_phase {s t : State} (hp : s.irqPending = false) (h : execStop s = .next t) :
    t.phase = some .stopped := by
  rw [of_not_held hp (execStop_next h).2, phase_respond, phase_stopEffect]

theorem execPlan_phase {d : Delay} {s t : State} (h : execPlan d s = .next t) : t.phase = s.phase := by
  rw [execPlan_frame h]
  rfl

theorem execTick_phase {s t : State} (h : execTick s = .next t) : t.phase = s.phase := by
  rw [execTick_frame h]
  rfl

/-- GETSTATUS without the mixing fault: the counting logic moves the derived state, and without an overflow it stays. -/
theorem execGetStatus_phase {s t : State} (hinv : s.Inv) (hp : s.irqPending = false) (h : execGetStatus s = .next t)
    (ht : t.Live) :
    (s.tov = false → t.phase = s.phase) ∧
    (s.tov = true → s.phase = some .armed → s.curOvf.toNat < s.maxOvf.toNat → t.phase = some .armed) ∧
    (s.tov = true → s.phase = some .armed → s.curOvf = s.maxOvf → t.phase = some .compensating) ∧
    (s.tov = true → s.phase = some .compensating → t.phase = some .stopped) := by
  have hready : s.Ready := ⟨(execGetStatus_next h).1, hp⟩
  cases hpath : s.interruptPathLive with
  | true =>
    obtain rfl := next_unique (execGetStatus_of_path_live hready hpath) h
    cases ht.1
  | false =>
    refine ⟨fun htov => ?_, fun htov harmed hlt => ?_, fun htov harmed heq => ?_, fun htov hcomp => ?_⟩
    · obtain rfl := next_unique (execGetStatus_of_no_overflow hready hpath htov) h
      exact phase_respond s .running
    · obtain rfl := next_unique (execGetStatus_of_lt hready hpath htov (BitVec.lt_def.mpr hlt)) h
      exact phase_consumeFull harmed hlt
    · obtain rfl := next_unique (execGetStatus_of_eq hready hpath htov heq) h
      exact phase_loadCompensating hinv harmed heq
    · obtain rfl := next_unique (execGetStatus_of_gt hready hpath htov (lt_of_phase_compensating hcomp)) h
      exact phase_stopEffect s.emitIfPresent

/-- OVF_ISR without the empty slot's fault: the same counting logic, but its expiring edge arms the next period. -/
theorem execOvfIsr_phase {s t : State} (hinv : s.Inv) (h : execOvfIsr s = .next t) (ht : t.Live) :
    (s.irqPending = false → t.phase = s.phase) ∧
    (s.irqPending = true → s.phase = some .armed → s.curOvf.toNat < s.maxOvf.toNat → t.phase = some .armed) ∧
    (s.irqPending = true → s.phase = some .armed → s.curOvf = s.maxOvf → t.phase = some .compensating) ∧
    (s.irqPending = true → s.phase = some .compensating → t.phase = some .armed ∧ t.curOvf = 0#64) := by
  have hl : s.Live := (execOvfIsr_next h).1
  refine ⟨fun hp => ?_, fun hp harmed hlt => ?_, fun hp harmed heq => ?_, fun hp hcomp => ?_⟩
  · obtain rfl := next_unique (execOvfIsr_of_not_pending hl hp) h
    rfl
  · obtain rfl := next_unique (execOvfIsr_of_lt hl hp (BitVec.lt_def.mpr hlt)) h
    exact phase_consumeFull harmed hlt
  · obtain rfl := next_unique (execOvfIsr_of_eq hl hp heq) h
    exact phase_loadCompensating hinv harmed heq
  · obtain ⟨hrun, -⟩ := (phase_eq_compensating_iff s).mp hcomp
    have hgt := lt_of_phase_compensating hcomp
    cases hcb : s.cbPresent with
    | true =>
      obtain rfl := next_unique (execOvfIsr_of_gt_full hl hp hgt hcb) h
      exact ⟨phase_expireInterrupt hrun, rfl⟩
    | false =>
      obtain rfl := next_unique (execOvfIsr_of_gt_empty hl hp hgt hcb) h
      cases ht.1

/-! ## The statements -/

/-- Settles O22: each case of a ready command gives its one response; GETSTATUS alone can record a fault instead. -/
theorem everyCommandRespondsOnce : Obligations.EveryCommandRespondsOnce := by
  intro i s hi hready
  obtain ⟨t, ht⟩ := exec_command_of_ready hi hready
  refine ⟨t, ht, ?_⟩
  cases i with
  | init => exact .inl (execInit_respondsOnce hready ht)
  | start => exact .inl (execStart_respondsOnce hready ht)
  | stop => exact .inl (execStop_respondsOnce hready ht)
  | getStatus =>
    obtain hresp | ⟨hpath, rfl⟩ := execGetStatus_respondsOnce_or_faults hready ht
    · exact .inl hresp
    · obtain ⟨hgie, htoie⟩ := (interruptPathLive_eq_true_iff s).mp hpath
      exact .inr ⟨rfl, hgie, htoie, rfl⟩
  | plan => exact .inl (execPlan_respondsOnce hready ht)
  | tick | ovfIsr => cases hi

/-- Settles O37: the delay has the calculator's plan, and the Start effect writes it with its first count. -/
theorem startArmsTheCountdown : Obligations.StartArmsTheCountdown := by
  intro cbp d tok s code div m l hready hd hsrc hsel hm hl
  obtain ⟨rfl, rfl⟩ := eq_selected_code_and_divisor hsel
  obtain rfl : m = planMax s.fCpu d.toNat := hm
  obtain rfl : l = planLast s.fCpu d.toNat := hl
  rw [← firstCount_eq s.fCpu d.isLt, BitVec.ofNat_toNat, BitVec.setWidth_eq]
  exact execStart_of_plan hready (plan_of_ne hd) hsrc

/-- Settles O41, by the path, the flag, and the three branches of the counting logic. -/
theorem getStatusBranches : Obligations.GetStatusBranches := by
  intro s hready
  rw [exec_getStatus]
  by_cases hpath : s.gie = true ∧ s.toie = true
  · rw [if_pos hpath]
    exact execGetStatus_of_path_live hready ((interruptPathLive_eq_true_iff s).mpr hpath)
  have hpath' : s.interruptPathLive = false :=
    eq_false_of_ne_true (mt (interruptPathLive_eq_true_iff s).mp hpath)
  rw [if_neg hpath]
  by_cases htov : s.tov = false
  · rw [if_pos htov]
    exact execGetStatus_of_no_overflow hready hpath' htov
  rw [if_neg htov]
  have htov' : s.tov = true := eq_true_of_ne_false htov
  by_cases hlt : s.curOvf.toNat < s.maxOvf.toNat
  · rw [if_pos hlt]
    exact execGetStatus_of_lt hready hpath' htov' (BitVec.lt_def.mpr hlt)
  rw [if_neg hlt]
  by_cases heq : s.curOvf = s.maxOvf
  · rw [if_pos heq]
    exact execGetStatus_of_eq hready hpath' htov' heq
  · have hgt : s.maxOvf < s.curOvf := by bv_omega
    rw [if_neg heq, execGetStatus_of_gt hready hpath' htov' hgt, emitIfPresent_eq]
    rfl

/-- Settles O43: START leaves a polled countdown at its first overflow, with MAX_OVF far from a wrap. -/
theorem polledCountdownExpiresOnce : Obligations.PolledCountdownExpiresOnce := by
  intro cbp d tok s hready hgie hd hsrc
  obtain ⟨p, hp⟩ : ∃ p, plan s.fCpu d = some p := ⟨_, plan_of_ne hd⟩
  have hpolled : ((s.startEffect p cbp d tok).respond .ok).Polled := ⟨hready.1, hgie, rfl⟩
  have hmax := plan_maxOvf_lt hp
  refine ⟨_, execStart_of_plan hready hp hsrc, fun cs hlen => ?_, fun cs hlen => ?_⟩
  · have hlen' : (0#64).toNat + cs.length ≤ p.maxOvf.toNat + 1 := by simpa using hlen
    obtain ⟨c, hrun⟩ := overflowsThen_getStatus_running hpolled hmax hlen'
    have hcur := afterOverflows_curOvf_toNat (s := (s.startEffect p cbp d tok).respond .ok) hmax hlen' c
    exact ⟨_, hrun, by simpa using hcur, rfl, rfl⟩
  · obtain ⟨b, c, hrun⟩ := overflowsThen_getStatus_expired hpolled rfl hmax hlen
    rw [emitIfPresent_eq] at hrun
    refine ⟨_, hrun, ?_, rfl, rfl, rfl, rfl, rfl, rfl, rfl, rfl⟩
    cases cbp <;> rfl

/-- Settles O47: `reload(L)` stands P(L) TICKs before the wrap. -/
theorem reloadOverflowsAfterItsTicks : Obligations.ReloadOverflowsAfterItsTicks := by
  intro l s hcount htov htcnt
  have hdist : 256 - s.tcnt.toNat = partialPeriod l := by rw [htcnt, wrap_distance_reload]
  refine ⟨reload_toNat l, fun n hn => ?_, ?_⟩
  · have hsum : s.tcnt.toNat + n < 256 := by
      have hn' : n < partialPeriod l := hn
      omega
    refine ⟨_, tickTimes_below_wrap hcount hsum, htov, ?_⟩
    show (s.tcnt + BitVec.ofNat 8 n).toNat = s.tcnt.toNat + n
    bv_omega
  · have hwrap := tickTimes_to_wrap hcount
    rw [hdist] at hwrap
    exact hwrap

/-- Settles O55, instruction by instruction. -/
theorem derivedStateTransitions : Obligations.DerivedStateTransitions := by
  intro i s t hinv h ht hp
  cases i with
  | init => exact execInit_phase (hp rfl) h
  | start => exact execStart_phase (hp rfl) h
  | stop => exact execStop_phase (hp rfl) h
  | plan => exact execPlan_phase h
  | tick => exact execTick_phase h
  | getStatus => exact execGetStatus_phase hinv (hp rfl) h ht
  | ovfIsr => exact execOvfIsr_phase hinv h ht

/-- Settles O28: valid codes pass both checks, and nothing of a field is lost in the register's width. -/
theorem initWritesModeAndClock : Obligations.InitWritesModeAndClock := by
  intro mode psc s hready hm hp
  rw [← modeCode_eq_ofNat, ← pscCode_eq_ofNat, ← pscCode_toNat hp, ← divisorOf_eq_table]
  exact execInit_of_valid hready hm hp

/-- Settles O39: a ready state runs the Stop effect. -/
theorem stopDisarmsTheTimer : Obligations.StopDisarmsTheTimer := fun _ => execStop_of_ready

/-- Settles O40: the state a STOP leaves is ready, and a second Stop effect changes nothing in it. -/
theorem stopIsIdempotent : Obligations.StopIsIdempotent := by
  intro s t hready h
  obtain rfl := next_unique (execStop_of_ready hready) h
  have hready' := ready_stopped hready.1 .ok
  refine ⟨hready', rfl, rfl, rfl, rfl, rfl, ?_⟩
  rw [exec_stop, execStop_of_ready hready', stopEffect_stopped]
  rfl

end Sys2Proof.Machine
end

section
/-! SUPPORT. TICK and OVF_ISR branch by branch, the overflows of the interrupt path up to the callback event and over
whole periods, and the TICKs to that event (statements of 42_overflow_counter.md). -/

namespace Sys2Proof.Machine

/-! ## TICK (R141, R142) -/

theorem execTick_of_not_normal {s : State} (hl : s.Live) (hcs : s.cs ≠ 0#3) (hwgm : s.wgm ≠ 0#2) :
    execTick s = .next (s.refuse .nonNormalModeCount) := by
  unfold execTick
  rw [unlessMarked_of_live hl]
  simp [State.clockRuns, hcs, hwgm]

theorem execTick_of_compareLive {s : State} (hl : s.Live) (hcs : s.cs ≠ 0#3) (hwgm : s.wgm = 0#2)
    (hcmp : s.compareLive = true) : execTick s = .next (s.refuse .compareInterruptNotModelled) := by
  unfold execTick
  rw [unlessMarked_of_live hl]
  simp [State.clockRuns, hcs, hwgm, hcmp]

theorem compareLive_eq_true_iff (s : State) : s.compareLive = true ↔ s.ocie = true ∧ s.gie = true := by
  simp [State.compareLive]

/-- One count as R141 writes it: modulo 256, with the flag set at the wrap. -/
theorem count_eq (s : State) :
    s.count = { s with
      tcnt := BitVec.ofNat 8 ((s.tcnt.toNat + 1) % 256)
      tov := if s.tcnt = 255#8 then true else s.tov } := by
  have hcount : BitVec.ofNat 8 ((s.tcnt.toNat + 1) % 256) = s.tcnt + 1#8 := by bv_omega
  rw [hcount]
  by_cases hfull : s.tcnt = 255#8
  · rw [count_of_full hfull, if_pos hfull, hfull]
    rfl
  · rw [count_of_ne_full hfull, if_neg hfull]

/-- One turn of the count register: to the wrap, then up to the count it began at. -/
theorem tickTimes_full_turn {s : State} (h : s.Counting) : tickTimes 256 s = .next { s with tov := true } := by
  have hlt := s.tcnt.isLt
  have hsplit : 256 = 256 - s.tcnt.toNat + s.tcnt.toNat := by omega
  have hwrapped : State.Counting { s with tcnt := 0#8, tov := true } := h
  have hrest : tickTimes s.tcnt.toNat { s with tcnt := 0#8, tov := true } = .next _ :=
    tickTimes_below_wrap hwrapped (by simpa using hlt)
  rw [hsplit, tickTimes_add, tickTimes_to_wrap h, andThen_next, hrest]
  simp

/-! ## One overflow of the interrupt path (R144) -/

/-- The interrupt path between two overflows: no mark, the overflow interrupt live, none pending, the slot full. -/
structure State.InterruptDriven (s : State) : Prop where
  live : s.Live
  gie : s.gie = true
  toie : s.toie = true
  tov : s.tov = false
  cbPresent : s.cbPresent = true

/-- The state after `n` counted overflows of the interrupt path, with the count at `c`.
`overflowsThen_ovfIsr_counted` ties it to the model. -/
def State.afterCounted (s : State) (n : Nat) (c : Count8) : State :=
  { s with tcnt := c, curOvf := s.curOvf + BitVec.ofNat 64 n }

/-- The state after `k` periods of the interrupt path, each ended by its callback event, with the count at `c`.
`overflowsThen_ovfIsr_periods` ties it to the model. -/
def State.afterPeriods (s : State) (k : Nat) (c : Count8) : State :=
  { s with tcnt := c, curOvf := 0#64, events := s.events ++ List.replicate k s.cbToken }

theorem afterCounted_zero (s : State) : s.afterCounted 0 s.tcnt = s := by
  simp [State.afterCounted]

theorem afterCounted_one_then (s : State) (n : Nat) (b c : Count8) :
    (s.afterCounted 1 b).afterCounted n c = s.afterCounted (n + 1) c := by
  have hcur : s.curOvf + 1#64 + BitVec.ofNat 64 n = s.curOvf + BitVec.ofNat 64 (n + 1) := by bv_omega
  simp [State.afterCounted, hcur]

theorem afterCounted_then_period (s : State) (n : Nat) (b c : Count8) :
    (s.afterCounted n b).afterPeriods 1 c = s.afterPeriods 1 c := rfl

theorem afterCounted_curOvf_toNat {s : State} {n : Nat} (hmax : s.maxOvf.toNat < 2 ^ 59)
    (hn : s.curOvf.toNat + n ≤ s.maxOvf.toNat + 1) (c : Count8) :
    (s.afterCounted n c).curOvf.toNat = s.curOvf.toNat + n := by
  have hadd : (s.curOvf + BitVec.ofNat 64 n).toNat = s.curOvf.toNat + n := by bv_omega
  exact hadd

theorem afterPeriods_zero {s : State} (hcur : s.curOvf = 0#64) : s.afterPeriods 0 s.tcnt = s := by
  simp [State.afterPeriods, ← hcur]

theorem afterPeriods_one_then (s : State) (k : Nat) (b c : Count8) :
    (s.afterPeriods 1 b).afterPeriods k c = s.afterPeriods (k + 1) c := by
  simp [State.afterPeriods, List.replicate_succ]

theorem afterPeriods_eq {s : State} (hcur : s.curOvf = 0#64) (k : Nat) (c : Count8) :
    s.afterPeriods k c = { s with tcnt := c, events := s.events ++ List.replicate k s.cbToken } := by
  simp [State.afterPeriods, hcur]

theorem interruptDriven_afterCounted {s : State} (h : s.InterruptDriven) (n : Nat) (c : Count8) :
    (s.afterCounted n c).InterruptDriven := ⟨h.live, h.gie, h.toie, h.tov, h.cbPresent⟩

theorem interruptDriven_afterPeriods {s : State} (h : s.InterruptDriven) (k : Nat) (c : Count8) :
    (s.afterPeriods k c).InterruptDriven := ⟨h.live, h.gie, h.toie, h.tov, h.cbPresent⟩

section OneOverflow
variable {s : State}

theorem irqPending_overflowed (h : s.InterruptDriven) (c : Count8) : (s.overflowed c).irqPending = true := by
  simp [State.irqPending, State.overflowed, h.gie, h.toie]

theorem execOvfIsr_overflowed_of_lt (h : s.InterruptDriven) (hlt : s.curOvf < s.maxOvf) (c : Count8) :
    execOvfIsr (s.overflowed c) = .next (s.afterCounted 1 c) := by
  refine (execOvfIsr_of_lt (s := s.overflowed c) h.live (irqPending_overflowed h c) hlt).trans ?_
  simp [State.overflowed, State.consumeFull, State.afterCounted, h.tov]

theorem execOvfIsr_overflowed_of_eq (h : s.InterruptDriven) (heq : s.curOvf = s.maxOvf) (c : Count8) :
    execOvfIsr (s.overflowed c) = .next (s.afterCounted 1 (reload s.lastTicks)) := by
  refine (execOvfIsr_of_eq (s := s.overflowed c) h.live (irqPending_overflowed h c) heq).trans ?_
  simp [State.overflowed, State.loadCompensating, State.afterCounted, h.tov]

theorem execOvfIsr_overflowed_of_gt (h : s.InterruptDriven) (hgt : s.maxOvf < s.curOvf) (c : Count8) :
    execOvfIsr (s.overflowed c) = .next (s.afterPeriods 1 c) := by
  refine (execOvfIsr_of_gt_full (s := s.overflowed c) h.live (irqPending_overflowed h c) hgt h.cbPresent).trans ?_
  simp [State.overflowed, State.enterInterrupt, State.expireInterrupt, State.emit, State.afterPeriods, h.tov]

/-- Up to MAX_OVF an overflow is counted, at whatever count it is met. -/
theorem execOvfIsr_counted (h : s.InterruptDriven) (hle : s.curOvf.toNat ≤ s.maxOvf.toNat) (c : Count8) :
    ∃ b, execOvfIsr (s.overflowed c) = .next (s.afterCounted 1 b) := by
  rcases Nat.lt_or_eq_of_le hle with hlt | heq
  · exact ⟨_, execOvfIsr_overflowed_of_lt h (BitVec.lt_def.mpr hlt) c⟩
  · exact ⟨_, execOvfIsr_overflowed_of_eq h (BitVec.eq_of_toNat_eq heq) c⟩

end OneOverflow

/-! ## The overflows of whole periods (R145, R146) -/

/-- Up to MAX_OVF + 1 overflows in all, each is counted and none gives an event. -/
theorem overflowsThen_ovfIsr_counted {cs : List Count8} {s : State} (h : s.InterruptDriven)
    (hmax : s.maxOvf.toNat < 2 ^ 59) (hlen : s.curOvf.toNat + cs.length ≤ s.maxOvf.toNat + 1) :
    ∃ c, overflowsThen .ovfIsr cs s = .next (s.afterCounted cs.length c) := by
  induction cs generalizing s with
  | nil => exact ⟨s.tcnt, by simp [afterCounted_zero]⟩
  | cons c cs ih =>
    rw [List.length_cons] at hlen
    obtain ⟨b, hfirst⟩ := execOvfIsr_counted h (by omega) c
    have hcur := afterCounted_curOvf_toNat hmax (by omega : s.curOvf.toNat + 1 ≤ _) b
    have hlen' : (s.afterCounted 1 b).curOvf.toNat + cs.length ≤ s.maxOvf.toNat + 1 := by omega
    obtain ⟨d, hrest⟩ := ih (interruptDriven_afterCounted h 1 b) hmax hlen'
    refine ⟨d, ?_⟩
    rw [overflowsThen_cons_overflowed, exec_ovfIsr, hfirst, andThen_next, hrest, afterCounted_one_then,
      List.length_cons]

/-- One period: MAX_OVF + 1 overflows are counted, and the next one gives the event and starts over. -/
theorem overflowsThen_ovfIsr_period {cs : List Count8} {s : State} (h : s.InterruptDriven) (hcur : s.curOvf = 0#64)
    (hmax : s.maxOvf.toNat < 2 ^ 59) (hlen : cs.length = s.maxOvf.toNat + 2) :
    ∃ c, overflowsThen .ovfIsr cs s = .next (s.afterPeriods 1 c) := by
  obtain ⟨ds, c, rfl⟩ : ∃ ds c, cs = ds ++ [c] :=
    (List.eq_nil_or_concat' cs).resolve_left (by rintro rfl; cases hlen)
  have hds : ds.length = s.maxOvf.toNat + 1 := by simpa using hlen
  have hzero : s.curOvf.toNat = 0 := by rw [hcur]; rfl
  obtain ⟨b, hrun⟩ := overflowsThen_ovfIsr_counted h hmax (by omega : s.curOvf.toNat + ds.length ≤ _)
  have hpast := afterCounted_curOvf_toNat hmax (by omega : s.curOvf.toNat + ds.length ≤ _) b
  have hgt : s.maxOvf.toNat < (s.afterCounted ds.length b).curOvf.toNat := by omega
  refine ⟨c, ?_⟩
  rw [overflowsThen_append, hrun, andThen_next, overflowsThen_singleton, exec_ovfIsr,
    execOvfIsr_overflowed_of_gt (interruptDriven_afterCounted h _ b) (BitVec.lt_def.mpr hgt) c,
    afterCounted_then_period]

theorem overflowsThen_ovfIsr_periods {k : Nat} {cs : List Count8} {s : State} (h : s.InterruptDriven)
    (hcur : s.curOvf = 0#64) (hmax : s.maxOvf.toNat < 2 ^ 59) (hlen : cs.length = k * (s.maxOvf.toNat + 2)) :
    ∃ c, overflowsThen .ovfIsr cs s = .next (s.afterPeriods k c) := by
  induction k generalizing cs s with
  | zero =>
    obtain rfl : cs = [] := List.eq_nil_of_length_eq_zero (by omega)
    exact ⟨s.tcnt, by rw [overflowsThen_nil, afterPeriods_zero hcur]⟩
  | succ k ih =>
    rw [Nat.succ_mul] at hlen
    have hfirst : (cs.take (s.maxOvf.toNat + 2)).length = s.maxOvf.toNat + 2 := by
      rw [List.length_take]
      omega
    have hlater : (cs.drop (s.maxOvf.toNat + 2)).length = k * (s.maxOvf.toNat + 2) := by
      rw [List.length_drop]
      omega
    obtain ⟨b, hperiod⟩ := overflowsThen_ovfIsr_period h hcur hmax hfirst
    obtain ⟨c, hrest⟩ := ih (s := s.afterPeriods 1 b) (interruptDriven_afterPeriods h 1 b) rfl hmax hlater
    refine ⟨c, ?_⟩
    rw [← List.take_append_drop (s.maxOvf.toNat + 2) cs, overflowsThen_append, hperiod, andThen_next, hrest,
      afterPeriods_one_then]

/-! ## Eager TICKs up to the next overflow (R83, R145) -/

theorem eagerTicks_add (m n : Nat) (s : State) : eagerTicks (m + n) s = andThen (eagerTicks m s) (eagerTicks n) := by
  induction m generalizing s with
  | zero => simp
  | succ m ih =>
    have hfun : eagerTicks (m + n) = fun t => andThen (eagerTicks m t) (eagerTicks n) := funext ih
    rw [Nat.add_right_comm, eagerTicks_succ, eagerTicks_succ, andThen_assoc _ (eagerTicks m), hfun]

/-- Up to the wrap no eager OVF_ISR but the last can find an interrupt pending, so they are TICKs with one OVF_ISR
after them. -/
theorem eagerTicks_eq_tickTimes_then_ovfIsr {n : Nat} {s : State} (h : s.Counting) (htov : s.tov = false)
    (hn : s.tcnt.toNat + n < 256) : eagerTicks (n + 1) s = andThen (tickTimes (n + 1) s) (exec .ovfIsr) := by
  induction n generalizing s with
  | zero =>
    rw [eagerTicks_succ, tickTimes_one]
    cases andThen (exec .tick s) (exec .ovfIsr) <;> rfl
  | succ n ih =>
    have hne : s.tcnt ≠ 255#8 := by bv_omega
    have htick : exec .tick s = .next { s with tcnt := s.tcnt + 1#8 } :=
      (execTick_of_counting h).trans (by rw [count_of_ne_full hne])
    have hisr : exec .ovfIsr { s with tcnt := s.tcnt + 1#8 } = .next { s with tcnt := s.tcnt + 1#8 } :=
      execOvfIsr_of_not_pending h.1 (irqPending_of_tov_false htov)
    have hnext : (s.tcnt + 1#8).toNat + n < 256 := by bv_omega
    rw [eagerTicks_succ, tickTimes_succ, htick, andThen_next, andThen_next, hisr, andThen_next]
    exact ih (s := { s with tcnt := s.tcnt + 1#8 }) h htov hnext

theorem eagerTicks_below_wrap {n : Nat} {s : State} (h : s.Counting) (htov : s.tov = false)
    (hn : s.tcnt.toNat + n < 256) : eagerTicks n s = .next { s with tcnt := s.tcnt + BitVec.ofNat 8 n } := by
  cases n with
  | zero => simp
  | succ n =>
    rw [eagerTicks_eq_tickTimes_then_ovfIsr h htov (by omega), tickTimes_below_wrap h hn, andThen_next]
    exact execOvfIsr_of_not_pending h.1 (irqPending_of_tov_false htov)

theorem eagerTicks_to_wrap {s : State} (h : s.Counting) (htov : s.tov = false) :
    eagerTicks (256 - s.tcnt.toNat) s = execOvfIsr (s.overflowed 0#8) := by
  have hlt := s.tcnt.isLt
  have hsplit : 256 - s.tcnt.toNat = 255 - s.tcnt.toNat + 1 := by omega
  have hwrap := tickTimes_to_wrap h
  rw [hsplit] at hwrap ⊢
  rw [eagerTicks_eq_tickTimes_then_ovfIsr h htov (by omega), hwrap]
  rfl

/-! ## Eager TICKs up to the callback event (R145) -/

/-- From `s`, `period` eager TICKs answer `t`, and none before the last gives a callback event. -/
def State.QuietUntil (s : State) (period : Nat) (t : State) : Prop :=
  (∀ n, n < period → ∃ u, eagerTicks n s = .next u ∧ u.events = s.events) ∧ eagerTicks period s = .next t

theorem quietUntil_zero (s : State) : s.QuietUntil 0 s :=
  ⟨fun n hn => absurd hn n.not_lt_zero, eagerTicks_zero s⟩

theorem State.QuietUntil.trans {s t u : State} {p q : Nat} (hst : s.QuietUntil p t) (hev : t.events = s.events)
    (htu : t.QuietUntil q u) : s.QuietUntil (p + q) u := by
  obtain ⟨hquiet, hreach⟩ := hst
  obtain ⟨hquiet', hreach'⟩ := htu
  refine ⟨fun n hn => ?_, by rw [eagerTicks_add, hreach, andThen_next, hreach']⟩
  rcases Nat.lt_or_ge n p with hlt | hge
  · exact hquiet n hlt
  · obtain ⟨v, hv, hvev⟩ := hquiet' (n - p) (by omega)
    refine ⟨v, ?_, hvev.trans hev⟩
    rw [← Nat.add_sub_cancel' hge, eagerTicks_add, hreach, andThen_next, hv]

section Ticks
variable {s : State}

/-- The TICKs to the wrap are quiet, and what the overflow does is up to its OVF_ISR. -/
theorem quietUntil_overflow {t : State} (hc : s.Counting) (h : s.InterruptDriven)
    (hisr : execOvfIsr (s.overflowed 0#8) = .next t) : s.QuietUntil (256 - s.tcnt.toNat) t :=
  ⟨fun _ hn => ⟨_, eagerTicks_below_wrap hc h.tov (by omega), rfl⟩, (eagerTicks_to_wrap hc h.tov).trans hisr⟩

/-- The full periods: from the count 0, `n` overflows up to MAX_OVF take 256 TICKs each. -/
theorem quietUntil_full_overflows {n : Nat} (hc : s.Counting) (h : s.InterruptDriven) (hcnt : s.tcnt = 0#8)
    (hmax : s.maxOvf.toNat < 2 ^ 59) (hn : s.curOvf.toNat + n ≤ s.maxOvf.toNat) :
    s.QuietUntil (n * 256) (s.afterCounted n 0#8) := by
  induction n generalizing s with
  | zero =>
    rw [← hcnt, afterCounted_zero, Nat.zero_mul]
    exact quietUntil_zero s
  | succ n ih =>
    have hlt : s.curOvf.toNat < s.maxOvf.toNat := by omega
    have hfirst := quietUntil_overflow hc h (execOvfIsr_overflowed_of_lt h (BitVec.lt_def.mpr hlt) 0#8)
    rw [hcnt] at hfirst
    have hcur := afterCounted_curOvf_toNat hmax (by omega : s.curOvf.toNat + 1 ≤ _) 0#8
    have hn' : (s.afterCounted 1 0#8).curOvf.toNat + n ≤ s.maxOvf.toNat := by omega
    have hrest := ih (s := s.afterCounted 1 0#8) hc (interruptDriven_afterCounted h 1 0#8) rfl hmax hn'
    rw [afterCounted_one_then] at hrest
    rw [Nat.succ_mul, Nat.add_comm]
    exact hfirst.trans rfl hrest

/-- The end of the countdown: with CUR_OVF = MAX_OVF the next overflow loads the compensating count, and P(L) TICKs
later the one after it gives the event. -/
theorem quietUntil_event_of_eq (hc : s.Counting) (h : s.InterruptDriven) (hmax : s.maxOvf.toNat < 2 ^ 59)
    (heq : s.curOvf = s.maxOvf) :
    s.QuietUntil (256 - s.tcnt.toNat + partialPeriod s.lastTicks) (s.afterPeriods 1 0#8) := by
  have hload := quietUntil_overflow hc h (execOvfIsr_overflowed_of_eq h heq 0#8)
  have hcur := afterCounted_curOvf_toNat hmax (by rw [heq] : s.curOvf.toNat + 1 ≤ _) (reload s.lastTicks)
  have hgt : s.maxOvf.toNat < (s.afterCounted 1 (reload s.lastTicks)).curOvf.toNat := by
    rw [hcur, heq]
    exact Nat.lt_succ_self _
  have h' := interruptDriven_afterCounted h 1 (reload s.lastTicks)
  have hevent := quietUntil_overflow (s := s.afterCounted 1 (reload s.lastTicks)) hc h'
    (execOvfIsr_overflowed_of_gt h' (BitVec.lt_def.mpr hgt) 0#8)
  have hdist : 256 - (s.afterCounted 1 (reload s.lastTicks)).tcnt.toNat = partialPeriod s.lastTicks :=
    wrap_distance_reload s.lastTicks
  rw [hdist, afterCounted_then_period] at hevent
  exact hload.trans rfl hevent

/-- The whole countdown from the count 0: MAX_OVF full periods, then its end. -/
theorem quietUntil_event_of_zero_count (hc : s.Counting) (h : s.InterruptDriven) (hmax : s.maxOvf.toNat < 2 ^ 59)
    (hcur : s.curOvf = 0#64) (hcnt : s.tcnt = 0#8) :
    s.QuietUntil ((s.maxOvf.toNat + 1) * 256 + partialPeriod s.lastTicks) (s.afterPeriods 1 0#8) := by
  have hzero : s.curOvf.toNat = 0 := by rw [hcur]; rfl
  have hfull := quietUntil_full_overflows hc h hcnt hmax (by omega : s.curOvf.toNat + s.maxOvf.toNat ≤ _)
  have heq : (s.afterCounted s.maxOvf.toNat 0#8).curOvf = s.maxOvf := by
    simp [State.afterCounted, hcur]
  have hend := quietUntil_event_of_eq (s := s.afterCounted s.maxOvf.toNat 0#8) hc
    (interruptDriven_afterCounted h _ _) hmax heq
  have hsum : (s.maxOvf.toNat + 1) * 256 + partialPeriod s.lastTicks =
      s.maxOvf.toNat * 256 + (256 + partialPeriod s.lastTicks) := by omega
  rw [hsum]
  exact hfull.trans rfl hend

end Ticks

/-! ## The statements -/

/-- Settles O48: the count register makes one full turn, and the flag does not tell whether it was set before. -/
theorem secondOverflowIsLost : Obligations.SecondOverflowIsLost := fun _ => tickTimes_full_turn

/-- Settles O49, by the three branches of the counting logic and the slot. -/
theorem ovfIsrBranches : Obligations.OvfIsrBranches := by
  intro s hl hp
  rw [exec_ovfIsr]
  by_cases hlt : s.curOvf.toNat < s.maxOvf.toNat
  · rw [if_pos hlt]
    exact execOvfIsr_of_lt hl hp (BitVec.lt_def.mpr hlt)
  rw [if_neg hlt]
  by_cases heq : s.curOvf = s.maxOvf
  · rw [if_pos heq]
    exact execOvfIsr_of_eq hl hp heq
  have hgt : s.maxOvf < s.curOvf := by bv_omega
  rw [if_neg heq]
  by_cases hcb : s.cbPresent = false
  · rw [if_pos hcb]
    exact execOvfIsr_of_gt_empty hl hp hgt hcb
  · rw [if_neg hcb]
    exact execOvfIsr_of_gt_full hl hp hgt (eq_true_of_ne_false hcb)

/-- Settles O52: both paths run the shared counting logic, below MAX_OVF and at it. -/
theorem bothPathsCountAlike : Obligations.BothPathsCountAlike := by
  intro s hl htov htoie hle
  have hready : State.Ready { s with gie := false } := ⟨hl, irqPending_of_gie_false rfl⟩
  have hpath : State.interruptPathLive { s with gie := false } = false := interruptPathLive_eq_false (.inl rfl)
  have hpend : State.irqPending { s with gie := true } = true := by simp [State.irqPending, htov, htoie]
  have hcur : (s.curOvf + 1#64).toNat = (s.curOvf.toNat + 1) % 2 ^ 64 := by simp
  rcases Nat.lt_or_eq_of_le hle with hlt | heq
  · have hlt' : s.curOvf < s.maxOvf := BitVec.lt_def.mpr hlt
    exact ⟨_, _, execGetStatus_of_lt hready hpath htov hlt', execOvfIsr_of_lt hl hpend hlt', rfl, rfl, hcur⟩
  · have heq' : s.curOvf = s.maxOvf := BitVec.eq_of_toNat_eq heq
    exact ⟨_, _, execGetStatus_of_eq hready hpath htov heq', execOvfIsr_of_eq hl hpend heq', rfl, rfl, hcur⟩

/-- Settles O53: within a period overflows are counted, and whole periods follow one another. -/
theorem interruptCountdownRepeats : Obligations.InterruptCountdownRepeats := by
  intro s hl hgie htoie htov hcb hcur hmax
  have h : s.InterruptDriven := ⟨hl, hgie, htoie, htov, hcb⟩
  refine ⟨fun cs hlen => ?_, fun k cs hlen => ?_⟩
  · have hzero : s.curOvf.toNat = 0 := by rw [hcur]; rfl
    have hlen' : s.curOvf.toNat + cs.length ≤ s.maxOvf.toNat + 1 := by omega
    obtain ⟨c, hrun⟩ := overflowsThen_ovfIsr_counted h hmax hlen'
    have hcount := afterCounted_curOvf_toNat hmax hlen' c
    exact ⟨_, hrun, by omega, rfl⟩
  · obtain ⟨c, hrun⟩ := overflowsThen_ovfIsr_periods h hcur hmax hlen
    exact ⟨_, hrun, afterPeriods_eq hcur k c⟩

/-- Settles O54: from `reload(L)` with MAX_OVF = 0 the countdown is at its end; from the count 0 it runs whole. -/
theorem callbackPeriodInTicks : Obligations.CallbackPeriodInTicks := by
  intro s period hc hgie htoie htov hcb hcur hmax hstart
  have h : s.InterruptDriven := ⟨hc.1, hgie, htoie, htov, hcb⟩
  have hquiet : s.QuietUntil period (s.afterPeriods 1 0#8) := by
    rcases hstart with ⟨hm, hcnt, rfl⟩ | ⟨hcnt, rfl⟩
    · have hend := quietUntil_event_of_eq hc h hmax (hcur.trans hm.symm)
      rw [hcnt, wrap_distance_reload, ← Nat.two_mul] at hend
      exact hend
    · exact quietUntil_event_of_zero_count hc h hmax hcur hcnt
  rw [afterPeriods_eq hcur] at hquiet
  exact hquiet

/-- Settles O44, by the mode and the compare interrupt. -/
theorem tickBranches : Obligations.TickBranches := by
  intro s hl hcs
  rw [exec_tick]
  by_cases hwgm : s.wgm ≠ 0#2
  · rw [if_pos hwgm]
    exact execTick_of_not_normal hl hcs hwgm
  rw [if_neg hwgm]
  have hnormal : s.wgm = 0#2 := not_not.mp hwgm
  by_cases hcmp : s.ocie = true ∧ s.gie = true
  · rw [if_pos hcmp]
    exact execTick_of_compareLive hl hcs hnormal ((compareLive_eq_true_iff s).mpr hcmp)
  · have hcount : s.Counting := ⟨hl, hcs, hnormal, by simpa using not_and_or.mp hcmp⟩
    rw [if_neg hcmp, ← count_eq]
    exact execTick_of_counting hcount

end Sys2Proof.Machine
end

section
/-! SUPPORT. Which steps emit a callback event (statements of 43_completion_notifier.md). -/

namespace Sys2Proof.Machine

/-! ## The two places of a callback event (R162) -/

/-- GETSTATUS is carried out on the polled path, finds the countdown expired, and the callback slot is full (R117). -/
def State.PolledCallbackDue (s : State) : Prop :=
  s.irqPending = false ∧ ¬ (s.gie = true ∧ s.toie = true) ∧ s.tov = true ∧ s.maxOvf < s.curOvf ∧ s.cbPresent = true

/-- OVF_ISR is at its expiring edge, and the callback slot is full (R144). -/
def State.HandledCallbackDue (s : State) : Prop :=
  s.irqPending = true ∧ s.maxOvf < s.curOvf ∧ s.cbPresent = true

/-- The callback is due in this instruction. `exec_emitsWhen` ties it to `exec`. -/
def State.CallbackDue (s : State) : Instr → Prop
  | .getStatus => s.PolledCallbackDue
  | .ovfIsr    => s.HandledCallbackDue
  | _          => False

theorem callbackDue_iff (i : Instr) (s : State) :
    s.CallbackDue i ↔ i = .getStatus ∧ s.PolledCallbackDue ∨ i = .ovfIsr ∧ s.HandledCallbackDue := by
  cases i <;> simp [State.CallbackDue]

/-- From `s` to `t` the one event CB_TOKEN is appended when `due` holds, and no event when it does not. -/
def State.EmitsWhen (s t : State) (due : Prop) : Prop :=
  due ∧ t.events = s.events ++ [s.cbToken] ∨ ¬ due ∧ t.events = s.events

theorem emitsWhen_of_not_due {s t : State} {due : Prop} (hnot : ¬ due) (he : t.events = s.events) :
    s.EmitsWhen t due :=
  .inr ⟨hnot, he⟩

theorem events_ne_iff_of_emitsWhen {s t : State} {due : Prop} (h : s.EmitsWhen t due) :
    t.events ≠ s.events ↔ due := by
  rcases h with ⟨hdue, he⟩ | ⟨hnot, he⟩
  · exact iff_of_true (by simp [he]) hdue
  · exact iff_of_false (not_not_intro he) hnot

theorem events_of_emitsWhen {s t : State} {due : Prop} (h : s.EmitsWhen t due) :
    t.events = s.events ∨ t.events = s.events ++ [s.cbToken] := by
  rcases h with ⟨-, he⟩ | ⟨-, he⟩
  · exact .inr he
  · exact .inl he

/-! ## What each instruction emits -/

/-- The Stop effect and the response that follow the callback of the polled expiry leave the event stream alone. -/
theorem events_polledExpiry (s : State) :
    (s.emitIfPresent.stopEffect.respond .expired).events =
      s.events ++ (if s.cbPresent = true then [s.cbToken] else []) := by
  rw [emitIfPresent_eq]
  rfl

theorem execGetStatus_emitsWhen {s t : State} (h : execGetStatus s = .next t) :
    s.EmitsWhen t s.PolledCallbackDue := by
  by_cases hexp : s.tov = true ∧ s.maxOvf < s.curOvf
  case neg =>
    exact emitsWhen_of_not_due (fun ⟨_, _, htov, hgt, _⟩ => hexp ⟨htov, hgt⟩)
      (congrArg State.events (execGetStatus_frame h hexp) :)
  case pos =>
    obtain ⟨htov, hgt⟩ := hexp
    obtain ⟨hl, ⟨hheld, rfl⟩ | ⟨hp, -⟩⟩ := execGetStatus_next h
    · exact emitsWhen_of_not_due (fun ⟨hp, _⟩ => ne_true_of_eq_false hp hheld) rfl
    cases hpath : s.interruptPathLive with
    | true =>
      obtain rfl := next_unique (execGetStatus_of_path_live ⟨hl, hp⟩ hpath) h
      exact emitsWhen_of_not_due (fun ⟨_, hoff, _⟩ => hoff ((interruptPathLive_eq_true_iff s).mp hpath)) rfl
    | false =>
      have hoff := mt (interruptPathLive_eq_true_iff s).mpr (ne_true_of_eq_false hpath)
      obtain rfl := next_unique (execGetStatus_of_gt ⟨hl, hp⟩ hpath htov hgt) h
      have hev := events_polledExpiry s
      by_cases hcb : s.cbPresent = true
      · exact .inl ⟨⟨hp, hoff, htov, hgt, hcb⟩, by rw [hev, if_pos hcb]⟩
      · exact emitsWhen_of_not_due (fun ⟨_, _, _, _, hfull⟩ => hcb hfull) (by rw [hev, if_neg hcb, List.append_nil])

theorem execOvfIsr_emitsWhen {s t : State} (h : execOvfIsr s = .next t) : s.EmitsWhen t s.HandledCallbackDue := by
  obtain ⟨-, ⟨hp, rfl⟩ | ⟨hp, ⟨hlt, rfl⟩ | ⟨heq, rfl⟩ | ⟨hgt, hcb, rfl⟩ | ⟨-, hcb, rfl⟩⟩⟩ := execOvfIsr_next h
  · exact emitsWhen_of_not_due (fun ⟨hpend, _⟩ => ne_true_of_eq_false hp hpend) rfl
  · exact emitsWhen_of_not_due (fun ⟨_, hgt, _⟩ => BitVec.lt_asymm hlt hgt) rfl
  · exact emitsWhen_of_not_due (fun ⟨_, hgt, _⟩ => BitVec.ne_of_lt hgt heq.symm) rfl
  · exact .inl ⟨⟨hp, hgt, hcb⟩, rfl⟩
  · exact emitsWhen_of_not_due (fun ⟨_, _, hfull⟩ => ne_true_of_eq_false hcb hfull) rfl

/-- No callback is due in INIT, START, STOP, PLAN or TICK, whose columns of the write matrix leave the event stream
alone (R44). -/
theorem exec_emitsWhen {i : Instr} {s t : State} (h : exec i s = .next t) : s.EmitsWhen t (s.CallbackDue i) := by
  cases i with
  | init => exact emitsWhen_of_not_due not_false (congrArg State.events (execInit_frame h) :)
  | start =>
    obtain ⟨-, -, -, he⟩ := execStart_frame h
    exact emitsWhen_of_not_due not_false he
  | stop =>
    obtain ⟨-, -, -, -, -, -, -, he⟩ := execStop_frame h
    exact emitsWhen_of_not_due not_false he
  | getStatus => exact execGetStatus_emitsWhen h
  | plan => exact emitsWhen_of_not_due not_false (congrArg State.events (execPlan_frame h) :)
  | tick => exact emitsWhen_of_not_due not_false (congrArg State.events (execTick_frame h) :)
  | ovfIsr => exact execOvfIsr_emitsWhen h

theorem illegalCommand_events {s t : State} (h : illegalCommand s = .next t) : t.events = s.events := by
  obtain ⟨-, ⟨-, rfl⟩ | ⟨-, rfl⟩⟩ := illegalCommand_next h
  · rfl
  · exact State.respond_events s _

theorem setGieAction_events {v : Bool} {s t : State} (h : setGieAction v s = .next t) : t.events = s.events := by
  obtain ⟨-, ⟨-, rfl⟩ | ⟨-, rfl⟩⟩ := setGieAction_next h
  · rfl
  · exact State.setGie_events s v

/-! ## The statement -/

/-- Settles O24: an instruction appends CB_TOKEN exactly when its callback is due, and no other move emits. -/
theorem callbackEventsOnlyAtExpiry : Obligations.CallbackEventsOnlyAtExpiry := by
  refine ⟨fun i s t h => ?_, fun _ _ => illegalCommand_events, fun _ _ _ => setGieAction_events⟩
  have hemits := exec_emitsWhen h
  exact ⟨events_of_emitsWhen hemits, (events_ne_iff_of_emitsWhen hemits).trans (callbackDue_iff i s)⟩

end Sys2Proof.Machine
end

section
/-! SUPPORT. The error responses, the marks of a fault and of a refusal, and the hold of a pending interrupt on the host
(statements of 60_exceptions.md). -/

namespace Sys2Proof.Machine

/-! ## The error responses (R171 to R176) -/

theorem execInit_of_invalidMode {s : State} {mode : BitVec 8} (h : s.Ready) (hm : 3 < mode.toNat) (psc : BitVec 8) :
    execInit mode psc s = .next (s.respond .invalidMode) := by
  unfold execInit
  rw [hostCommand_of_ready h, (invalidMode_eq_true_iff mode).mpr hm]
  rfl

theorem execInit_of_invalidPsc {s : State} {mode psc : BitVec 8} (h : s.Ready) (hm : mode.toNat ≤ 3)
    (hp : 7 < psc.toNat) : execInit mode psc s = .next (s.respond .invalidPrescaler) := by
  unfold execInit
  rw [hostCommand_of_ready h, (invalidMode_eq_false_iff mode).mpr hm, (invalidPsc_eq_true_iff psc).mpr hp]
  rfl

theorem execStart_of_zero_delay {s : State} (h : s.Ready) (cbp : Bool) (tok : Token) :
    execStart cbp 0#64 tok s = .next (s.respond .invalidDelay) := by
  unfold execStart
  rw [hostCommand_of_ready h, plan_zero]

theorem execPlan_of_zero_delay {s : State} (h : s.Ready) : execPlan 0#64 s = .next (s.respond .invalidDelay) := by
  unfold execPlan
  rw [hostCommand_of_ready h, plan_zero]

theorem sourceEnabled_eq_true_iff (s : State) : s.sourceEnabled = true ↔ s.toie = true ∨ s.ocie = true := by
  simp [State.sourceEnabled]

theorem execStart_of_missing_callback {s : State} {d : Delay} (h : s.Ready) (hd : d ≠ 0#64)
    (hsrc : s.sourceEnabled = true) (tok : Token) :
    execStart false d tok s = .next (s.respond .missingCallback) := by
  unfold execStart
  rw [hostCommand_of_ready h, plan_of_ne hd, hsrc]
  rfl

/-- From `s` to `t` no error response is given. -/
def State.GivesNoError (s t : State) : Prop :=
  ∃ rs, t.responses = s.responses ++ rs ∧ ∀ r ∈ rs, r.code.isError = false

theorem givesNoError_of_silent {s t : State} (h : t.responses = s.responses) : s.GivesNoError t :=
  ⟨[], by simp [h], by simp⟩

theorem givesNoError_of_response {s t : State} {r : Response} (hr : r.code.isError = false)
    (h : t.responses = s.responses ++ [r]) : s.GivesNoError t :=
  ⟨[r], h, by simpa using hr⟩

/-- An error response is never part of an effect that writes: such an effect answers OK, RUNNING or EXPIRED, or nothing
at all (R176). -/
theorem respond_or_givesNoError_of_effect {s t : State} (h : s.Effect t) :
    (∃ code, t = s.respond code) ∨ s.GivesNoError t := by
  cases h with
  | answer code => exact .inl ⟨code, rfl⟩
  | silent | fault | refusal | count | handledFull | handledCompensating | handledExpiry =>
    exact .inr (givesNoError_of_silent rfl)
  | answerPlan | init | start | stop | polledFull | polledCompensating =>
    exact .inr (givesNoError_of_response rfl rfl)
  | polledExpiry => exact .inr (givesNoError_of_response rfl (responses_polledExpiry s))

theorem eq_respond_of_error {s t : State} {r : Response} (h : s.Effect t) (hr : t.responses = s.responses ++ [r])
    (herr : r.code.isError = true) : t = s.respond r.code := by
  obtain ⟨code, rfl⟩ | ⟨rs, hrs, hnone⟩ := respond_or_givesNoError_of_effect h
  · obtain rfl : noData code = r := by simpa [noData] using hr
    rfl
  · obtain rfl : rs = [r] := List.append_cancel_left (hrs.symm.trans hr)
    exact absurd herr (ne_true_of_eq_false (hnone r List.mem_cons_self))

/-! ## The marks of a fault and of a refusal (R178, R181) -/

theorem exec_of_faultMark {s : State} {f : Fault} (h : s.faultMark = some f) (i : Instr) : exec i s = .fault f := by
  cases i <;> exact unlessMarked_fault h _

theorem exec_of_refusedMark {s : State} {r : Refusal} (hf : s.faultMark = none) (h : s.refusedMark = some r)
    (i : Instr) : exec i s = .refused r := by
  cases i <;> exact unlessMarked_refused hf h _

theorem step_of_faultMark {s : State} {f : Fault} (h : s.faultMark = some f) : step s = .fault f :=
  unlessMarked_fault h _

theorem step_of_refusedMark {s : State} {r : Refusal} (hf : s.faultMark = none) (h : s.refusedMark = some r) :
    step s = .refused r :=
  unlessMarked_refused hf h _

/-- A marked state answers with its mark, so only a state without one has a next state. -/
theorem live_of_exec_next {i : Instr} {s t : State} (h : exec i s = .next t) : s.Live := by
  cases hf : s.faultMark with
  | some f => cases (exec_of_faultMark hf i).symm.trans h
  | none =>
    cases hr : s.refusedMark with
    | some r => cases (exec_of_refusedMark hf hr i).symm.trans h
    | none => exact ⟨hf, hr⟩

/-- An effect keeps both marks, or it records one of them and writes nothing else. -/
theorem marks_of_effect {s t : State} (h : s.Effect t) :
    (t.faultMark = s.faultMark ∧ t.refusedMark = s.refusedMark) ∨ (∃ f, t = s.raise f) ∨ (∃ r, t = s.refuse r) := by
  cases h with
  | fault f => exact .inr (.inl ⟨f, rfl⟩)
  | refusal r => exact .inr (.inr ⟨r, rfl⟩)
  | polledExpiry =>
    rw [emitIfPresent_eq]
    exact .inl ⟨rfl, rfl⟩
  | _ => exact .inl ⟨rfl, rfl⟩

theorem exec_eq_raise {i : Instr} {s t : State} {f : Fault} (h : exec i s = .next t) (hf : t.faultMark = some f) :
    t = s.raise f := by
  obtain ⟨hnofault, -⟩ := live_of_exec_next h
  obtain ⟨hkept, -⟩ | ⟨f', rfl⟩ | ⟨r, rfl⟩ := marks_of_effect (exec_effect h)
  · cases hf.symm.trans (hkept.trans hnofault)
  · obtain rfl : f' = f := Option.some.inj hf
    rfl
  · cases hf.symm.trans hnofault

theorem exec_eq_refuse {i : Instr} {s t : State} {r : Refusal} (h : exec i s = .next t) (hr : t.refusedMark = some r) :
    t = s.refuse r := by
  obtain ⟨-, hnorefusal⟩ := live_of_exec_next h
  obtain ⟨-, hkept⟩ | ⟨f, rfl⟩ | ⟨r', rfl⟩ := marks_of_effect (exec_effect h)
  · cases hr.symm.trans (hkept.trans hnorefusal)
  · cases hr.symm.trans hnorefusal
  · obtain rfl : r' = r := Option.some.inj hr
    rfl

/-! ## The hold of a pending interrupt (R187) -/

theorem exec_command_of_pending {i : Instr} {s : State} (hi : i.isCommand = true) (hl : s.Live)
    (hp : s.irqPending = true) : exec i s = .next s := by
  cases i with
  | init => unfold exec execInit; exact hostCommand_of_pending hl hp _
  | start => unfold exec execStart; exact hostCommand_of_pending hl hp _
  | stop => unfold exec execStop; exact hostCommand_of_pending hl hp _
  | getStatus => unfold exec execGetStatus; exact hostCommand_of_pending hl hp _
  | plan => unfold exec execPlan; exact hostCommand_of_pending hl hp _
  | tick | ovfIsr => cases hi

theorem runHostMove_of_pending {s : State} (hp : s.irqPending = true) (rest : List Move) (move : State → StepResult) :
    runHostMove s rest move = exec .ovfIsr s :=
  if_pos hp

/-- Either move of the host is held, and the pending OVF_ISR runs in its place (R110, R187). -/
theorem step_of_held_move {s : State} {m : Move} {rest : List Move} (hl : s.Live) (hp : s.irqPending = true)
    (hm : m.isHost = true) (hs : s.schedule = m :: rest) : step s = exec .ovfIsr s := by
  unfold step takeStep
  rw [unlessMarked_of_live hl, hs]
  cases m with
  | command | setGie => exact runHostMove_of_pending hp rest _
  | tick | isr => cases hm

theorem execOvfIsr_of_live {s : State} (hl : s.Live) : ∃ t, execOvfIsr s = .next t :=
  ⟨_, unlessMarked_of_live hl _⟩

/-- The handler clears the flag in every branch but its fault (R144, R179). -/
theorem execOvfIsr_clears_tov {s t : State} (hp : s.irqPending = true) (h : execOvfIsr s = .next t) (ht : t.Live) :
    t.tov = false := by
  obtain ⟨-, ⟨hidle, -⟩ | ⟨-, ⟨-, rfl⟩ | ⟨-, rfl⟩ | ⟨-, -, rfl⟩ | ⟨-, -, rfl⟩⟩⟩ := execOvfIsr_next h
  · exact absurd hp (ne_true_of_eq_false hidle)
  · rfl
  · rfl
  · rfl
  · cases ht.1

/-! ## The statements -/

/-- Settles O10: the hold, the handler's column of the write matrix, and the flag it clears. -/
theorem pendingInterruptHoldsTheHost : Obligations.PendingInterruptHoldsTheHost := by
  intro s rest hl hp
  refine ⟨fun i hi => exec_command_of_pending hi hl hp, fun hnext => ?_, step_of_tick_turn hl⟩
  have hstep : step s = exec .ovfIsr s := by
    obtain ⟨c, hs⟩ | ⟨v, hs⟩ := hnext
    · exact step_of_held_move hl hp rfl hs
    · exact step_of_held_move hl hp rfl hs
  obtain ⟨t, ht⟩ := execOvfIsr_of_live hl
  obtain ⟨hgie, hsched, -, -⟩ := exec_keeps_environment (i := .ovfIsr) ht
  have hresp : t.responses = s.responses := (congrArg State.responses (execOvfIsr_frame ht) :)
  refine ⟨hstep, t, hstep.trans ht, hsched, hresp, hgie, fun hlive => ?_⟩
  have htov : t.tov = false := execOvfIsr_clears_tov hp ht hlive
  exact ⟨htov, irqPending_of_tov_false htov⟩

/-- Settles O13: an effect that records a mark writes nothing else, and every meaning asks first for a state without
one. -/
theorem markedStateHasNoFurtherStep : Obligations.MarkedStateHasNoFurtherStep := by
  refine ⟨fun _ _ _ _ => exec_eq_raise, fun _ _ _ _ => exec_eq_refuse, fun s f hf => ?_, fun s r hf hr => ?_⟩
  · refine ⟨step_of_faultMark hf, exec_of_faultMark hf, ?_⟩
    rintro ⟨-, hnofault, -⟩
    cases hf.symm.trans hnofault
  · refine ⟨step_of_refusedMark hf hr, exec_of_refusedMark hf hr, ?_⟩
    rintro ⟨-, -, hnorefusal⟩
    cases hr.symm.trans hnorefusal

/-- Settles O23: the only effect that gives an error response is that response alone. -/
theorem errorResponseWritesNothing : Obligations.ErrorResponseWritesNothing := by
  refine ⟨fun i s t r h => eq_respond_of_error (exec_effect h), fun s t h hne => ?_⟩
  obtain ⟨-, ⟨-, rfl⟩ | ⟨-, rfl⟩⟩ := illegalCommand_next h
  · exact absurd rfl hne
  · rfl

/-- Settles O29: the mode is checked first, then the prescaler. -/
theorem initRejectsUnrecognisedCodes : Obligations.InitRejectsUnrecognisedCodes :=
  fun _ psc _ h => ⟨fun hm => execInit_of_invalidMode h hm psc, execInit_of_invalidPsc h, rfl, rfl⟩

/-- Settles O35: a zero delay has no plan, and no other check comes before that one. -/
theorem zeroDelayIsRejected : Obligations.ZeroDelayIsRejected :=
  fun cbp tok _ h => ⟨execStart_of_zero_delay h cbp tok, execPlan_of_zero_delay h, rfl⟩

/-- Settles O36: the delay has a plan, so the check of the callback is reached. -/
theorem missingCallbackIsRejected : Obligations.MissingCallbackIsRejected :=
  fun _ tok s h hd hsrc => ⟨execStart_of_missing_callback h hd ((sourceEnabled_eq_true_iff s).mpr hsrc) tok, rfl⟩

/-- Settles O42: GETSTATUS records the fault while the interrupt path is live, and the marked state answers with it. -/
theorem mixingThePathsFaults : Obligations.MixingThePathsFaults := fun s h hgie htoie =>
  ⟨_, execGetStatus_of_path_live h ((interruptPathLive_eq_true_iff s).mpr ⟨hgie, htoie⟩), rfl, step_of_faultMark rfl⟩

/-- Settles O46: TICK tests the mode and then the compare interrupt, and the marked state answers with the refusal. -/
theorem undescribedCountingIsRefused : Obligations.UndescribedCountingIsRefused := by
  intro s hl hcs
  refine ⟨fun hwgm => ?_, fun hwgm hocie hgie => ?_⟩
  · exact ⟨_, execTick_of_not_normal hl hcs hwgm, rfl, step_of_refusedMark hl.1 rfl⟩
  · have hcmp : s.compareLive = true := (compareLive_eq_true_iff s).mpr ⟨hocie, hgie⟩
    exact ⟨_, execTick_of_compareLive hl hcs hwgm hcmp, rfl, step_of_refusedMark hl.1 rfl⟩

/-- Settles O51: the expiring edge finds no callback to call, and the marked state answers with the fault. -/
theorem emptySlotFaultsAtTheExpiringEdge : Obligations.EmptySlotFaultsAtTheExpiringEdge :=
  fun _ hl hp hgt hcb => ⟨_, execOvfIsr_of_gt_empty hl hp (BitVec.lt_def.mpr hgt) hcb, rfl, step_of_faultMark rfl⟩

end Sys2Proof.Machine
end

section
/-! SUPPORT. The end of a run, and a START after a START (statements of 70_reset_and_hazards.md). -/

namespace Sys2Proof.Machine

/-! ## The end of a run (R211) -/

/-- A TICK is not enabled while the clock is stopped (R140; log entry 3). -/
theorem execTick_of_clock_stopped {s : State} (hl : s.Live) (hc : s.clockRuns = false) : execTick s = .next s := by
  unfold execTick
  rw [unlessMarked_of_live hl, hc]
  rfl

/-- The drained schedule leaves the turn to the clock when no interrupt is pending (log entry 4). -/
theorem step_of_drained_not_pending {s : State} (hl : s.Live) (hs : s.schedule = []) (hp : s.irqPending = false) :
    step s = exec .tick s := by
  unfold step takeStep drainedStep
  rw [unlessMarked_of_live hl, hs, hp]
  rfl

theorem hostDone_withSchedule_tail {s : State} (h : s.HostDone) : (s.withSchedule s.schedule.tail).HostDone :=
  List.all_eq_true.mpr fun m hm => List.all_eq_true.mp h m (List.mem_of_mem_tail hm)

theorem endedWell_withSchedule_tail {s : State} (h : s.EndedWell) : (s.withSchedule s.schedule.tail).EndedWell := by
  obtain ⟨⟨hdone, hidle⟩, hl⟩ := h
  exact ⟨⟨hostDone_withSchedule_tail hdone, hidle⟩, hl⟩

/-- Whatever is next, the drained schedule or a leftover turn, it stands for a step that is not enabled. -/
theorem step_of_endedWell {s : State} (h : s.EndedWell) : step s = .next (s.withSchedule s.schedule.tail) := by
  obtain ⟨⟨hdone, hclock, hirq⟩, hl⟩ := h
  have hstopped : s.clockRuns = false := hclock.resolve_right (not_not_intro hl)
  have hidle : s.irqPending = false := hirq.resolve_right (not_not_intro hl)
  cases hs : s.schedule with
  | nil =>
    calc step s
      _ = exec .tick s := step_of_drained_not_pending hl hs hidle
      _ = .next s := execTick_of_clock_stopped hl hstopped
      _ = .next (s.withSchedule []) := by rw [← hs]; rfl
  | cons m rest =>
    have hm : m.isHost = false := by simpa using List.all_eq_true.mp hdone m (by simp [hs])
    cases m with
    | tick => exact (step_of_tick_turn hl hs).trans (execTick_of_clock_stopped (s := s.withSchedule rest) hl hstopped)
    | isr => exact (step_of_isr_turn hl hs).trans (execOvfIsr_of_not_pending (s := s.withSchedule rest) hl hidle)
    | command | setGie => cases hm

/-! ## START after START (R207) -/

/-- START clears the flag, so no interrupt is pending after it. -/
theorem ready_started {s : State} (h : s.Live) (p : Plan) (cbp : Bool) (d : Delay) (tok : Token) (code : RespCode) :
    ((s.startEffect p cbp d tok).respond code).Ready :=
  ⟨h, irqPending_of_tov_false rfl⟩

/-- START leaves TOIE = 1, the source that R174 asks about. -/
theorem sourceEnabled_started (s : State) (p : Plan) (cbp : Bool) (d : Delay) (tok : Token) (code : RespCode) :
    ((s.startEffect p cbp d tok).respond code).sourceEnabled = true :=
  (sourceEnabled_eq_true_iff _).mpr (.inl rfl)

/-! ## The statements -/

/-- Settles O38: START leaves the overflow source enabled, so the check of the callback rejects the second START, and
STOP turns both sources off. -/
theorem startWithoutCallbackNeedsAStop : Obligations.StartWithoutCallbackNeedsAStop := by
  intro cbp d d' tok tok' s hready hd hd' hsrc
  obtain ⟨p, hp⟩ : ∃ p, plan s.fCpu d = some p := ⟨_, plan_of_ne hd⟩
  have hstarted := ready_started hready.1 p cbp d tok .ok
  have hrejected := execStart_of_missing_callback hstarted hd' (sourceEnabled_started s p cbp d tok .ok) tok'
  have hstopped := ready_stopped hstarted.1 .ok
  have haccepted := execStart_of_plan (cbp := false) (tok := tok') hstopped (plan_of_ne hd') (.inr ⟨rfl, rfl⟩)
  exact ⟨_, execStart_of_plan hready hp hsrc, hstarted, rfl, hrejected, _, _, execStop_of_ready hstarted, haccepted,
    rfl, rfl, rfl⟩

/-- Settles O14: no agent has an enabled step in an unmarked ended state, and a marked state has no next one. -/
theorem endedRunChangesNothing : Obligations.EndedRunChangesNothing := by
  refine ⟨fun s h => ⟨step_of_endedWell h, endedWell_withSchedule_tail h⟩, fun s t _ hmarked hstep => ?_⟩
  obtain ⟨hl, -⟩ := step_next hstep
  exact hmarked hl

end Sys2Proof.Machine
end

section
/-! SUPPORT. The drained schedule: who moves when the host has no further move, and the TICKs that go on without it
(statements of 42_overflow_counter.md, 60_exceptions.md and 70_reset_and_hazards.md). -/

namespace Sys2Proof.Machine

/-! ## The clock's enabling (R140) -/

theorem clockRuns_eq_true_iff (s : State) : s.clockRuns = true ↔ s.cs ≠ 0#3 := by
  simp [State.clockRuns]

theorem clockRuns_eq_false_iff (s : State) : s.clockRuns = false ↔ s.cs = 0#3 := by
  simp [State.clockRuns]

/-! ## The drained schedule with an interrupt pending (R188) -/

/-- The open choice puts a TICK first only while the clock runs, and is counted either way (log entry 4). -/
theorem step_of_drained_pending {s : State} (hl : s.Live) (hs : s.schedule = []) (hp : s.irqPending = true) :
    step s = if s.clockRuns && Config.tickFirst s.choices then exec .tick s.bumpChoice
      else exec .ovfIsr s.bumpChoice := by
  unfold step takeStep drainedStep
  rw [unlessMarked_of_live hl, hs, hp]
  rfl

theorem step_of_drained_pending_stopped {s : State} (hl : s.Live) (hs : s.schedule = []) (hp : s.irqPending = true)
    (hclock : s.clockRuns = false) : step s = exec .ovfIsr s.bumpChoice := by
  rw [step_of_drained_pending hl hs hp, hclock]
  rfl

theorem step_of_drained_pending_running {s : State} (hl : s.Live) (hs : s.schedule = []) (hp : s.irqPending = true)
    (hclock : s.clockRuns = true) : step s = exec .ovfIsr s.bumpChoice ∨ step s = exec .tick s.bumpChoice := by
  rw [step_of_drained_pending hl hs hp, hclock]
  cases Config.tickFirst s.choices with
  | false => exact .inl rfl
  | true => exact .inr rfl

/-! ## TICKs without the host (R141, R211) -/

/-- The state `n` counts later: TCNT advanced modulo 256, the flag set if the count has wrapped. -/
def State.afterCounts (s : State) (n : Nat) : State :=
  { s with
    tcnt := BitVec.ofNat 8 (s.tcnt.toNat + n)
    tov := s.tov || decide (256 ≤ s.tcnt.toNat + n) }

theorem afterCounts_zero (s : State) : s.afterCounts 0 = s := by
  have hnowrap : ¬ 256 ≤ s.tcnt.toNat := by have := s.tcnt.isLt; omega
  simp [State.afterCounts, hnowrap]

/-- The first count wraps and sets the flag for good, or it leaves the flag to the counts after it. -/
theorem afterCounts_count (s : State) (n : Nat) : s.count.afterCounts n = s.afterCounts (n + 1) := by
  by_cases hfull : s.tcnt = 255#8
  · have htcnt : BitVec.ofNat 8 n = BitVec.ofNat 8 (255 + (n + 1)) := by bv_omega
    have hwrap : 256 ≤ 255 + (n + 1) := by omega
    rw [count_of_full hfull]
    simp [State.afterCounts, hfull, htcnt, hwrap]
  · have hnext : (s.tcnt + 1#8).toNat + n = s.tcnt.toNat + (n + 1) := by bv_omega
    rw [count_of_ne_full hfull]
    simp only [State.afterCounts, hnext]

/-- With the interrupt masked a drained step from a counting state is one count. -/
theorem step_of_drained_counting {s : State} (h : s.Counting) (hgie : s.gie = false) (hs : s.schedule = []) :
    step s = .next s.count :=
  (step_of_drained_not_pending h.1 hs (irqPending_of_gie_false hgie)).trans (execTick_of_counting h)

theorem run_succ_of_next {M : Host.Core} {n : Nat} {s t : M.State} (h : M.step s = .next t) :
    M.run (n + 1) s = M.run n t := by
  simp only [Host.Core.run, h]

/-- A count keeps the state counting, masked and drained, so the first step's count leads to the other `n`. -/
theorem run_of_drained_counting {n : Nat} {s : State} (h : s.Counting) (hgie : s.gie = false)
    (hs : s.schedule = []) : Host.Core.run core n s = .next (s.afterCounts n) := by
  induction n generalizing s with
  | zero => rw [afterCounts_zero]; rfl
  | succ n ih =>
    have hcounted : s.count.Counting := h
    calc Host.Core.run core (n + 1) s
      _ = Host.Core.run core n s.count := run_succ_of_next (M := core) (step_of_drained_counting h hgie hs)
      _ = .next (s.count.afterCounts n) := ih hcounted hgie hs
      _ = .next (s.afterCounts (n + 1)) := by rw [afterCounts_count]

/-! ## The statements -/

/-- Settles O12, one count for each step. -/
theorem ticksGoOnWithoutTheHost : Obligations.TicksGoOnWithoutTheHost :=
  fun _ _ => run_of_drained_counting

/-- Settles O11: only a pending interrupt beside a running clock leaves the order open. -/
theorem drainedScheduleRunsTheOtherAgents : Obligations.DrainedScheduleRunsTheOtherAgents :=
  fun s hl hs =>
    ⟨step_of_drained_not_pending hl hs,
      fun hp hcs => step_of_drained_pending_stopped hl hs hp ((clockRuns_eq_false_iff s).mpr hcs),
      fun hp hcs => step_of_drained_pending_running hl hs hp ((clockRuns_eq_true_iff s).mpr hcs)⟩

/-- Settles O16: after reset the clock is stopped and no interrupt is pending, as at the end of a run. -/
theorem resetWaitsForTheHost : Obligations.ResetWaitsForTheHost := by
  have hidle : State.reset.EndedWell := by decide
  exact step_of_endedWell hidle

/-- Settles O19: PLAN_PSC has its reset value 0, and RUNNING = 0 asks nothing of the timer. -/
theorem armedInvHoldsAtReset : Obligations.ArmedInvHoldsAtReset := by
  have hnotRunning : State.reset.running = false := rfl
  exact ⟨.inl rfl, fun hrunning => absurd hrunning (ne_true_of_eq_false hnotRunning)⟩

/-- Settles O45: CS = 0 is the stopped clock. -/
theorem tickWaitsWhileTheClockIsStopped : Obligations.TickWaitsWhileTheClockIsStopped :=
  fun s hl hcs => execTick_of_clock_stopped hl ((clockRuns_eq_false_iff s).mpr hcs)

/-- Settles O50: the meaning of OVF_ISR tests IRQ_PENDING first. -/
theorem ovfIsrWaitsForAPendingInterrupt : Obligations.OvfIsrWaitsForAPendingInterrupt :=
  fun _ hl hp => execOvfIsr_of_not_pending hl hp

end Sys2Proof.Machine
end
